-- ==== Sys2Proof/Word.lean ====
section
/-! DEFINITION. The byte of the station links' frames (R169: 8 data bits) and the units of time the timers count in. -/

namespace Sys2Proof

/-- One character of a station link: 8 data bits (R169). -/
abbrev Byte := BitVec 8

/-- The byte with the value of `n` modulo 256. -/
def byte (n : Nat) : Byte := BitVec.ofNat 8 n

/-- `n` milliseconds, in the microseconds of the 1 MHz capture tick (R63). -/
def ms (n : Nat) : Nat := n * 1000

end Sys2Proof
end

