-- ==== Sys2Proof/Syntax.lean ====
section
/-! DEFINITION. The commands of the part: one constructor of `Instr` for each row of spec/opcode_table.json, and the names
their operands are made of. -/

namespace Sys2Proof

/-- A station link, LINK0 to LINK3 (R169). -/
abbrev Link := Fin 4

/-- A lamp channel, LAMP0 to LAMP3 (R116). -/
abbrev Lamp := Fin 4

/-- A driver channel, OUT0 to OUT11 (R131). -/
abbrev Chan := Fin 12

/-- A sequence context (R98). -/
abbrev Ctx := Fin 2

/-- The four actuators; an actuator's code is its slot number (00_scope.md, Actuators and strokes). -/
inductive Actuator where
  | lift | tilt | khatch | ohatch
  deriving DecidableEq, Repr

/-- The three sensors of the capture channels (R62). -/
inductive Sensor where
  | height | tilt | pressure
  deriving DecidableEq, Repr

/-- The thirteen digital inputs, in the order of the INPUT_SETUP table (R43, R179). -/
inductive Input where
  | park | ign | speed | estop | stow | ground | kshut | kopen | oshut | oopen | gate0 | gate1 | pumprun
  deriving DecidableEq, Repr

/-- A pin whose level the outside may change: a digital input (R43) or a role strap (R174). -/
inductive Pin where
  | input (i : Input)
  | strap0
  | strap1
  deriving DecidableEq, Repr

/-- What the outside does to a pin: drives it high, drives it low, or leaves it undriven, when it reads at its bias level
(R43). -/
inductive Drive where
  | high | low | undriven
  deriving DecidableEq, Repr

/-- The commands. A request carries the link it arrives on, its tag, and the parameter bytes that follow the tag (R172,
R176). A timer event carries the record whose timer it names. A measurement carries the value measured. -/
inductive Instr where
  /-- STATUS (R177) -/
  | status (l : Link) (tag : Byte) (params : List Byte)
  /-- FAULTS (R178) -/
  | faults (l : Link) (tag : Byte) (params : List Byte)
  /-- RESET_CAUSE (R159) -/
  | resetCause (l : Link) (tag : Byte) (params : List Byte)
  /-- HOLD (R5) -/
  | hold (l : Link) (tag : Byte) (params : List Byte)
  /-- RELEASE (R9) -/
  | release (l : Link) (tag : Byte) (params : List Byte)
  /-- MOVE (R10) -/
  | move (l : Link) (tag : Byte) (params : List Byte)
  /-- CANCEL (R11) -/
  | cancel (l : Link) (tag : Byte) (params : List Byte)
  /-- SEQ_START (R101) -/
  | seqStart (l : Link) (tag : Byte) (params : List Byte)
  /-- SEQ_HOLD (R110) -/
  | seqHold (l : Link) (tag : Byte) (params : List Byte)
  /-- SEQ_CANCEL (R112) -/
  | seqCancel (l : Link) (tag : Byte) (params : List Byte)
  /-- LAMP_SET (R122): a LAMP request whose action is not CLEAR -/
  | lampSet (l : Link) (tag : Byte) (params : List Byte)
  /-- LAMP_CLEAR (R122): a LAMP request whose action is CLEAR -/
  | lampClear (l : Link) (tag : Byte) (params : List Byte)
  /-- OUTPUT (R140) -/
  | output (l : Link) (tag : Byte) (params : List Byte)
  /-- STOP_ALL (R148) -/
  | stopAll (l : Link) (tag : Byte) (params : List Byte)
  /-- RESUME (R150) -/
  | resume (l : Link) (tag : Byte) (params : List Byte)
  /-- ACK (R164): an ACK request that is not ACK ALL -/
  | ack (l : Link) (tag : Byte) (params : List Byte)
  /-- ACK_ALL (R164): an ACK request of kind 0x00 with subject 0xFF (R176) -/
  | ackAll (l : Link) (tag : Byte)
  /-- CONFIG_ENTER (R146) -/
  | configEnter (l : Link) (tag : Byte) (params : List Byte)
  /-- CONFIG_WRITE (R180) -/
  | configWrite (l : Link) (tag : Byte) (params : List Byte)
  /-- CONFIG_READ (R181) -/
  | configRead (l : Link) (tag : Byte) (params : List Byte)
  /-- CONFIG_COMMIT (R182) -/
  | configCommit (l : Link) (tag : Byte) (params : List Byte)
  /-- RESTART (R158) -/
  | restart (l : Link) (tag : Byte) (params : List Byte)
  /-- UNKNOWN_REQUEST (R172): a valid frame whose code is not in the request table -/
  | unknownRequest (l : Link) (code : Byte) (tag : Byte) (params : List Byte)
  /-- FRAME_DISCARDED (R170): characters received in which no frame is valid -/
  | frameDiscarded (l : Link) (chars : List Byte)
  /-- FRAMING_ERROR (R170): a character whose stop bit reads low -/
  | framingError (l : Link)
  /-- GAP_TIMER_EXPIRY (R170) -/
  | gapTimerExpiry (l : Link)
  /-- REPLY_SENT (R173) -/
  | replySent (l : Link)
  /-- REPLY_DROPPED (R173) -/
  | replyDropped (l : Link)
  /-- POWER_ON_RESET (R158) -/
  | powerOnReset
  /-- PIN_RESET (R158): RESETB goes low -/
  | pinReset
  /-- HOLDER_LAPSE (R8) -/
  | holderLapse (a : Actuator) (l : Link)
  /-- WATCH_LAPSE (R22) -/
  | watchLapse (a : Actuator) (l : Link)
  /-- RUN_LIMIT_EXPIRY (R13) -/
  | runLimitExpiry (a : Actuator)
  /-- HOLD_TIMER_EXPIRY (R15) -/
  | holdTimerExpiry (a : Actuator)
  /-- RUN_DOWN_END (R20) -/
  | runDownEnd (a : Actuator)
  /-- PROFILE_UPDATE (R82) -/
  | profileUpdate
  /-- OVERLOAD_EXPIRY (R95) -/
  | overloadExpiry
  /-- PRIME_LIMIT (R38) -/
  | primeLimit (a : Actuator)
  /-- STUCK_WATCH_EXPIRY (R41) -/
  | stuckWatchExpiry
  /-- PIN_LEVEL_CHANGE (R44) -/
  | pinLevelChange (p : Pin) (d : Drive)
  /-- DEBOUNCE_SETTLE (R44) -/
  | debounceSettle (i : Input)
  /-- SPEED_EDGE (R45) -/
  | speedEdge
  /-- QUIET_TIMER_EXPIRY (R47) -/
  | quietTimerExpiry
  /-- CAPTURE_RISING_EDGE (R63) -/
  | captureRisingEdge (m : Sensor)
  /-- CAPTURE_FALLING_EDGE (R63) -/
  | captureFallingEdge (m : Sensor)
  /-- LOST_EXPIRY (R72) -/
  | lostExpiry (m : Sensor)
  /-- STARTUP_END (R144) -/
  | startupEnd
  /-- BATTERY_SAMPLE (R151), in millivolts -/
  | batterySample (mv : BitVec 16)
  /-- CLOCK_COMPARISON (R154), with the count of the main oscillator over the period -/
  | clockComparison (count : Nat)
  /-- OWNER_LAPSE (R147) -/
  | ownerLapse
  /-- DORMANCY_TIMER_EXPIRY (R155) -/
  | dormancyTimerExpiry
  /-- WAKE_START_BIT (R156) -/
  | wakeStartBit (l : Link)
  /-- WAKE_IGN (R156) -/
  | wakeIgn
  /-- WAKE_LINE (R156): the WAKE line pulled low from outside for 1 ms -/
  | wakeLine
  /-- WAKE_DRIVE_END (R157) -/
  | wakeDriveEnd
  /-- PHASE_TIMER_EXPIRY (R117) -/
  | phaseTimerExpiry (n : Lamp)
  /-- TRAIL_TIMER_EXPIRY (R120) -/
  | trailTimerExpiry (n : Lamp)
  /-- LEAD_REACHED (R124) -/
  | leadReached (n : Lamp)
  /-- LAMP_PROVE_TEST (R125), with the current the lamp's channel delivers if its pin is driven, in milliamperes -/
  | lampProveTest (n : Lamp) (current : Nat)
  /-- OPEN_LOAD_TEST (R137), with the current the channel delivers, in milliamperes -/
  | openLoadTest (c : Chan) (current : Nat)
  /-- SHORT_TRIP (R138), with the current the channel delivers, in milliamperes -/
  | shortTrip (c : Chan) (current : Nat)
  /-- PWM_PERIOD_START (R135) -/
  | pwmPeriodStart (c : Chan)
  /-- STEP_TIMER_EXPIRY (R106) -/
  | stepTimerExpiry (c : Ctx)
  /-- SEQUENCE_LAPSE (R111) -/
  | sequenceLapse (c : Ctx)
  /-- PAUSE_TIMER_EXPIRY (R111) -/
  | pauseTimerExpiry (c : Ctx)
  /-- REPLY_START (R173) -/
  | replyStart (l : Link)
  /-- RESETB_RELEASE (R158) -/
  | resetbRelease
  deriving DecidableEq, Repr

end Sys2Proof
end

