-- ==== Sys2Proof/Decode.lean ====
section
/-! DEFINITION. Reading a command from a word by the bits of spec/opcode_table.json. The table gives bits to none of its 67
rows (98_reader.md: n_rows_with_fixed 0, n_rows_with_fields 0), so no word spells a command (log 7). -/

namespace Sys2Proof

/-- The command an instruction word of `nbits` bits spells by the table's bits: none, for no row has bits. -/
def decodeTableWord (_nbits _w : Nat) : Option Instr := none

end Sys2Proof
end

