-- ==== Sys2Proof/Machine/Types.lean ====
section
/-! DEFINITION. The kinds of data the blocks hold: tables of fixed size, the names of states, outcomes, conditions, functions
and fault kinds, and one record type for each record the chapters lay out. -/

namespace Sys2Proof.Machine

/-- A fixed number of like things, indexed from 0. -/
structure Table (α : Type) (n : Nat) where
  cells : List α
  size : cells.length = n
  deriving DecidableEq, Repr

/-- A set of links, each with its timer: the timer of a link in the set, `none` for a link outside it (R1, R7). -/
abbrev LinkTimers := Table (Option Nat) 4

/-- A selection of the eighteen permit conditions (R51, R55). -/
abbrev CondSet := Table Bool 18

/-! ### Names -/

/-- The two strokes of an actuator (00_scope.md). -/
inductive Stroke where
  | powered | ret
  deriving DecidableEq, Repr

/-- The two hydraulic circuits (R24). -/
inductive Circuit where
  | liftCircuit | hatchCircuit
  deriving DecidableEq, Repr

/-- The two hatches (R49). -/
inductive Hatch where
  | kerbside | offside
  deriving DecidableEq, Repr

/-- The authority of a link (R169). -/
inductive Role where
  | cab | rear | kerb | service | absent
  deriving DecidableEq, Repr

/-- The five reset kinds (R158). -/
inductive ResetKind where
  | powerOn | pin | brownOut | clock | restart
  deriving DecidableEq, Repr

/-- The slot states, in the order of R1. -/
inductive SlotState where
  | idle | waiting | priming | running | holding | settling | blocked
  deriving DecidableEq, Repr

/-- The ways a slot's last motion ended, in the order of R1. -/
inductive Ending where
  | none | reached | released | lapsed | cancelled | stopped | conflict | interlock | sensorFault | driverFault | pumpFault
  | overload | timeout | lowSupply | beaconFault | gateTimeout
  deriving DecidableEq, Repr

/-- The class of an end (R1, 1.7). -/
inductive EndClass where
  | normal | blocking
  deriving DecidableEq, Repr

/-- The starter of a run-to-target motion (R1). -/
inductive Owner where
  | link (l : Link)
  | ctx (c : Ctx)
  deriving DecidableEq, Repr

/-- The eighteen permit conditions, in the order of R51. -/
inductive Cond where
  | parked | standstill | estopClear | ignitionOn | supplyNormal | supplyUsable | stowed | atGround | liftAtBed | khShut
  | khOpen | ohShut | ohOpen | gate0 | gate1 | heightValid | tiltValid | pressureValid
  deriving DecidableEq, Repr

/-- The position of a hatch, in the order STATUS codes it (R49, R183). -/
inductive HatchPos where
  | shut | opened | between | unknown
  deriving DecidableEq, Repr

/-- The crew enabling switches a sequence step may add (R96). -/
inductive Gate where
  | gate0 | gate1
  deriving DecidableEq, Repr

/-- The twelve output functions, in the order of their codes (R132, R176). -/
inductive Func where
  | pump | lower | tiltv | khatchv | ohatchv | divert | lamp0 | lamp1 | lamp2 | lamp3 | aux0 | aux1
  deriving DecidableEq, Repr

/-- A function's request (R132). -/
inductive Request where
  | off
  | on
  | pwm (duty : Nat)
  deriving DecidableEq, Repr

/-- How a channel is driven (R131). -/
inductive ChanDrive where
  | off | on | pwm | tripped
  deriving DecidableEq, Repr

/-- Why a stroke is not ready (R60). -/
inductive Cause where
  | tripped | driverEntry | lampFailed | sensorEntry | hatchSwitch | pumpStuck | fullFlag | unmapped
  deriving DecidableEq, Repr

/-- The reason a lamp is lit (R118). -/
inductive LampClass where
  | none | manual | motion | fault
  deriving DecidableEq, Repr

/-- Whether motion demand is present, and what holds it (R116). -/
inductive MotionDemand where
  | absent | slot | trail
  deriving DecidableEq, Repr

/-- The result of the last proving (R116). -/
inductive Proven where
  | unknown | proven | failed
  deriving DecidableEq, Repr

/-- The battery zone, in the order STATUS codes it (R152, R183). -/
inductive Zone where
  | normal | sag | low
  deriving DecidableEq, Repr

/-- The device state, in the order STATUS codes it (R142, R183). -/
inductive DeviceState where
  | startup | unconfigured | config | ready | stopped | dormant
  deriving DecidableEq, Repr

/-- The fifteen fault kinds, in the order of their codes (R161). -/
inductive FaultKind where
  | estop | vehicleMoved | sensorRange | sensorLost | hatchSwitch | driverOpen | driverShort | lampOpen | pumpNoRun
  | pumpRunLost | pumpStuck | overload | runTimeout | lowSupply | sequenceOverrun
  deriving DecidableEq, Repr

/-- What a fault went wrong on (R160). -/
inductive Subject where
  | none
  | actuator (a : Actuator)
  | sensor (m : Sensor)
  | chan (c : Chan)
  | lamp (n : Lamp)
  | ctx (c : Ctx)
  deriving DecidableEq, Repr

/-- The results of R176. -/
inductive Result where
  | accepted | clamped | atLimit | refusedRole | refusedState | busy | conflict | blocked | notConfigured | badParam
  | notOwner | unknownRequest | configInvalid
  deriving DecidableEq, Repr

/-- The states of a sequence context (R99). -/
inductive CtxState where
  | idle | active | paused
  deriving DecidableEq, Repr

/-- What the current step of a context waits for (R98). -/
inductive Phase where
  | none | slotBusy | inMotion | conditions
  deriving DecidableEq, Repr

/-- How a context's last run ended, in the order STATUS codes it (R98, R183). -/
inductive RunResult where
  | none | done | stepFailed | overrun | lapsed | cancelled | stopped
  deriving DecidableEq, Repr

/-- The bias of an input pin (R43). -/
inductive Bias where
  | up | down | none
  deriving DecidableEq, Repr

/-- The polarity of an input (R43). -/
inductive Polarity where
  | activeHigh | activeLow
  deriving DecidableEq, Repr

/-! ### Configuration records (R179) -/

/-- INPUT_SETUP (R43). -/
structure InputSetup where
  bias : Bias
  polarity : Polarity
  deriving DecidableEq, Repr

/-- MOTION_POLICY (R179). -/
structure Policy where
  priority : Nat
  hold : Bool
  run : Bool
  /-- the run limit, in seconds -/
  runLimit : Nat
  extra : CondSet
  deriving DecidableEq, Repr

/-- SCALING (R75, R81). -/
structure Scaling where
  hmax : Nat
  hbed : Nat
  tspan : Nat
  tclose : Nat
  sbH : Nat
  sbT : Nat
  deriving DecidableEq, Repr

/-- PROFILE (R80). -/
structure ProfileCfg where
  umin : Nat
  umax : Nat
  zone : Nat
  load : Nat
  rup : Nat
  rdown : Nat
  pover : Nat
  deriving DecidableEq, Repr

/-- A lamp pattern, in units of 10 ms (R117). -/
structure Pattern where
  on : Nat
  off : Nat
  deriving DecidableEq, Repr

/-- LAMP (R116, R128). -/
structure LampCfg where
  mask : Table Bool 4
  required : Bool
  faultInd : Bool
  motion : Pattern
  fault : Pattern
  manual : Pattern
  /-- the trail time, in milliseconds -/
  trail : Nat
  deriving DecidableEq, Repr

/-- A MOTION step (R96). -/
structure MotionStep where
  actuator : Actuator
  stroke : Stroke
  target : Option Nat
  /-- in units of 100 ms -/
  limit : Nat
  gate : Option Gate
  next : Option (Fin 32)
  onFail : Option (Fin 32)
  deriving DecidableEq, Repr

/-- A WAIT step (R96). -/
structure WaitStep where
  mask : CondSet
  /-- in units of 100 ms -/
  limit : Nat
  next : Option (Fin 32)
  onFail : Option (Fin 32)
  deriving DecidableEq, Repr

/-- STEP (R96). -/
inductive StepRecord where
  | empty
  | motion (m : MotionStep)
  | wait (w : WaitStep)
  deriving DecidableEq, Repr

/-- ENTRY (R97). -/
structure EntryRecord where
  first : Option (Fin 32)
  held : Bool
  deriving DecidableEq, Repr

/-- TIMING (R179). -/
structure Timing where
  /-- the refresh window, in units of 10 ms -/
  refresh : Nat
  /-- the lead time, in milliseconds -/
  lead : Nat
  /-- the trail base, in milliseconds -/
  trailBase : Nat
  /-- the prime limit, in milliseconds -/
  primeLimit : Nat
  /-- the dormancy delay, in minutes -/
  dormancy : Nat
  deriving DecidableEq, Repr

/-- The nine configuration tables (R179). -/
structure Tables where
  outputMap : Table (Option Func) 12
  inputSetup : Table InputSetup 13
  policy : Table Policy 8
  scaling : Scaling
  profile : ProfileCfg
  lamps : Table LampCfg 4
  steps : Table StepRecord 32
  entries : Table EntryRecord 8
  timing : Timing
  deriving DecidableEq, Repr

/-! ### Records of the blocks -/

/-- The slot record (R1), with the requirement set formed at WAITING entry (R55) and the run-down timer of R20. -/
structure Slot where
  state : SlotState
  stroke : Option Stroke
  target : Option Nat
  holders : LinkTimers
  owner : Option Owner
  reportTo : Option Ctx
  watch : LinkTimers
  endClass : Option EndClass
  runTimer : Nat
  holdTimer : Option Nat
  outcome : Ending
  u : Nat
  need : CondSet
  runDown : Option Nat
  deriving DecidableEq, Repr

/-- A slot's prime timer (R35, R38): stopped, running, or stopped at the prime limit with PUMPRUN asserted. -/
inductive PrimeTimer where
  | stopped
  | running (t : Nat)
  | passed
  deriving DecidableEq, Repr

/-- The Supply Arbiter's allocation (R24, R25, R26, R35). -/
structure Arbiter where
  grants : Table (Option Actuator) 2
  pumpOwner : Option Actuator
  callList : List Actuator
  prime : Table PrimeTimer 4
  deriving DecidableEq, Repr

/-- The Supply Arbiter's stuck watch (R41). -/
structure StuckWatch where
  timer : Option Nat
  flag : Bool
  deriving DecidableEq, Repr

/-- The Profile Generator (R79) and the overload timer of the LIFT slot (R94). -/
structure Profile where
  uOut : Nat
  update : Option Nat
  overload : Option Nat
  deriving DecidableEq, Repr

/-- A digital input: its pin (R43) and its debounced level (R44), or for SPEED the level, after polarity, that its glitch
filter has taken (R45). `none` is UNSETTLED. -/
structure InputRec where
  drive : Drive
  level : Bool
  debounced : Option Bool
  timer : Option Nat
  deriving DecidableEq, Repr

/-- The Permit Logic's own records (R47, R49, R50, R51, R57). -/
structure Permit where
  standstill : Bool
  /-- the time since the last rising edge of SPEED, absent when there is none (R47) -/
  lastRise : Option Nat
  quiet : Option Nat
  hatch : Table HatchPos 2
  switchFault : Table Bool 2
  conds : CondSet
  ready : Table Bool 8
  deriving DecidableEq, Repr

/-- A period in progress: the counter at its rising edge and at its first falling edge (R62). -/
structure OpenPeriod where
  rise : BitVec 16
  fall : Option (BitVec 16)
  deriving DecidableEq, Repr

/-- A capture channel (R62). -/
structure Capture where
  openPeriod : Option OpenPeriod
  window : List Nat
  bad : Nat
  valid : Bool
  reported : Nat
  lost : Option Nat
  rangeFlag : Bool
  lostFlag : Bool
  deriving DecidableEq, Repr

/-- A sequence context (R98). -/
structure Context where
  state : CtxState
  sequence : Option (Fin 8)
  owner : Option Link
  held : Bool
  step : Option (Fin 32)
  phase : Phase
  started : Nat
  stepTimer : Option Nat
  holdTimer : Option Nat
  pauseTimer : Option Nat
  result : RunResult
  deriving DecidableEq, Repr

/-- A manual demand (R122). -/
structure Manual where
  pattern : Pattern
  bursts : Nat
  startOn : Bool
  deriving DecidableEq, Repr

/-- The runtime fields of a lamp channel (R116). -/
structure LampRec where
  cls : LampClass
  motion : MotionDemand
  fault : Bool
  manual : Option Manual
  bursts : Nat
  phaseOn : Bool
  phaseTimer : Option Nat
  trailTimer : Option Nat
  lead : Option Nat
  prove : Option Nat
  proven : Proven
  deriving DecidableEq, Repr

/-- A driver channel (R131), with its place in the PWM period (R135) and the mark that a period has begun at or after the
50 ms of the open-load test (R137). -/
structure ChanRec where
  drive : ChanDrive
  duty : Nat
  pending : Nat
  prove : Option Nat
  period : Option Nat
  armed : Bool
  deriving DecidableEq, Repr

/-- The Output Driver Bank (R131, R132). -/
structure Bank where
  requests : Table Request 12
  channels : Table ChanRec 12
  deriving DecidableEq, Repr

/-- The Supply Monitor (R151, R152) with the periods of the sampling and of the clock monitor (R154). -/
structure Supply where
  window : List Nat
  zone : Zone
  defined : Bool
  sampleTimer : Option Nat
  clockTimer : Option Nat
  deriving DecidableEq, Repr

/-- A fault entry (R160). -/
structure FaultEntry where
  kind : FaultKind
  subject : Subject
  active : Bool
  acked : Bool
  count : Nat
  deriving DecidableEq, Repr

/-- The Fault Table (R160). -/
structure FaultTable where
  entries : List FaultEntry
  full : Bool
  deriving DecidableEq, Repr

/-- The Device State Controller (R142, R157), with the watch on IGN in DORMANT (R156). -/
structure Device where
  state : DeviceState
  startup : Option Nat
  configured : Bool
  owner : Option Link
  ownerIdle : Option Nat
  dormancy : Option Nat
  prior : Option DeviceState
  estopFlag : Bool
  wakeDrive : Option Nat
  ignWatch : Option Nat
  deriving DecidableEq, Repr

/-- The receive state of a link, with the bytes received so far (R169, R170). -/
inductive Rx where
  | hunt
  | length
  | body (len : Nat) (got : List Byte)
  | check (len : Nat) (got : List Byte)
  deriving DecidableEq, Repr

/-- A reply frame before its layout (R183): the request's code and tag, the result and the data, and the mark of the reply
whose sending or dropping brings the RESTART reset (R158). -/
structure Reply where
  code : Byte
  tag : Byte
  result : Result
  data : List Byte
  restarts : Bool
  deriving DecidableEq, Repr

/-- A station link (R169). -/
structure LinkRec where
  role : Role
  rx : Rx
  gap : Option Nat
  causes : Table Bool 5
  sending : Option Reply
  waiting : Option Reply
  deriving DecidableEq, Repr

/-- The pins that are not digital inputs: the role straps (R174) and RESETB (R158). -/
structure Pins where
  strap0 : Bool
  strap1 : Bool
  resetbLow : Bool
  deriving DecidableEq, Repr

/-- An arrival that one block hands to others inside a step (00_scope.md, Where things are stated). -/
inductive Arrival where
  /-- the arbiter takes an allocation round (R28) -/
  | round
  /-- the arbiter tests the completion of priming (R35) -/
  | primeTest
  /-- a permit condition has changed (R53) -/
  | condition (c : Cond) (holds : Bool)
  /-- a stroke's readiness has changed, to not ready with a cause, or to ready (R60) -/
  | readiness (a : Actuator) (k : Stroke) (cause : Option Cause)
  /-- a hatch's position has changed (R49) -/
  | hatchMoved (h : Hatch)
  /-- a reported value has changed (R74) -/
  | reported (m : Sensor)
  /-- a slot has entered IDLE (R104) -/
  | slotFree (a : Actuator)
  /-- a raiser posts an occurrence (R162) -/
  | occurrence (k : FaultKind) (subject : Subject)
  /-- a raiser posts the end of a condition (R163) -/
  | conditionEnd (k : FaultKind) (subject : Subject)
  /-- a context starts a step (R102) -/
  | stepStart (c : Ctx) (i : Fin 32)
  /-- the movement rule is made (R148) -/
  | movement
  deriving DecidableEq, Repr

end Sys2Proof.Machine
end

