-- ==== Sys2Proof/Machine/Names.lean ====
section
/-! DEFINITION. Reading and writing tables of fixed size, the number of each name in its table, the lists of all names, and
the codes that frames carry for them (R176, R183). -/

namespace Sys2Proof

open Machine

/-! ### The operands' names -/

def Actuator.ix : Actuator → Fin 4
  | .lift => 0 | .tilt => 1 | .khatch => 2 | .ohatch => 3

def Actuator.all : List Actuator := [.lift, .tilt, .khatch, .ohatch]

def Actuator.ofByte (b : Byte) : Option Actuator := Actuator.all[b.toNat]?

def Actuator.circuit : Actuator → Circuit
  | .lift | .tilt => .liftCircuit
  | .khatch | .ohatch => .hatchCircuit

/-- The hatch an actuator moves, if it moves one. -/
def Actuator.hatch? : Actuator → Option Hatch
  | .khatch => some .kerbside
  | .ohatch => some .offside
  | .lift | .tilt => none

def Sensor.ix : Sensor → Fin 3
  | .height => 0 | .tilt => 1 | .pressure => 2

def Sensor.all : List Sensor := [.height, .tilt, .pressure]

def Input.ix : Input → Fin 13
  | .park => 0 | .ign => 1 | .speed => 2 | .estop => 3 | .stow => 4 | .ground => 5 | .kshut => 6 | .kopen => 7
  | .oshut => 8 | .oopen => 9 | .gate0 => 10 | .gate1 => 11 | .pumprun => 12

def Input.all : List Input :=
  [.park, .ign, .speed, .estop, .stow, .ground, .kshut, .kopen, .oshut, .oopen, .gate0, .gate1, .pumprun]

def Input.ofIx (i : Fin 13) : Input := Input.all.get i

end Sys2Proof

namespace Sys2Proof.Machine

/-! ### Tables -/

def Table.get {α : Type} {n : Nat} (t : Table α n) (i : Fin n) : α :=
  t.cells.get (i.cast t.size.symm)

def Table.set {α : Type} {n : Nat} (t : Table α n) (i : Fin n) (a : α) : Table α n :=
  ⟨t.cells.set i.val a, by simp [t.size]⟩

def Table.ofFn {α : Type} {n : Nat} (f : Fin n → α) : Table α n :=
  ⟨List.ofFn f, by simp⟩

def Table.fill {α : Type} (n : Nat) (a : α) : Table α n :=
  ⟨List.replicate n a, by simp⟩

def Table.map {α β : Type} {n : Nat} (f : α → β) (t : Table α n) : Table β n :=
  ⟨t.cells.map f, by simp [t.size]⟩

/-- No link is in the set. -/
def LinkTimers.none : LinkTimers := Table.fill 4 Option.none

/-- The set has no members. -/
def LinkTimers.isEmpty (t : LinkTimers) : Bool := t.cells.all (·.isNone)

/-- The union of two sets of links, a link in both keeping its timer of the first (R19, R21). -/
def LinkTimers.join (t w : LinkTimers) : LinkTimers :=
  Table.ofFn fun l => (t.get l).or (w.get l)

/-! ### Numbers of names -/

def Circuit.ix : Circuit → Fin 2
  | .liftCircuit => 0 | .hatchCircuit => 1

def Hatch.ix : Hatch → Fin 2
  | .kerbside => 0 | .offside => 1

def Hatch.all : List Hatch := [.kerbside, .offside]

def Hatch.actuator : Hatch → Actuator
  | .kerbside => .khatch | .offside => .ohatch

def Stroke.ix : Stroke → Fin 2
  | .powered => 0 | .ret => 1

def Stroke.all : List Stroke := [.powered, .ret]

def Stroke.ofByte (b : Byte) : Option Stroke := Stroke.all[b.toNat]?

/-- The row of a stroke in the MOTION_POLICY table: 2 × actuator + stroke (R179). -/
def strokeIx (a : Actuator) (k : Stroke) : Fin 8 :=
  ⟨2 * a.ix.val + k.ix.val, by omega⟩

/-- The eight strokes, in the order of the MOTION_POLICY table. -/
def allStrokes : List (Actuator × Stroke) :=
  [(.lift, .powered), (.lift, .ret), (.tilt, .powered), (.tilt, .ret),
   (.khatch, .powered), (.khatch, .ret), (.ohatch, .powered), (.ohatch, .ret)]

def Cond.ix : Cond → Fin 18
  | .parked => 0 | .standstill => 1 | .estopClear => 2 | .ignitionOn => 3 | .supplyNormal => 4 | .supplyUsable => 5
  | .stowed => 6 | .atGround => 7 | .liftAtBed => 8 | .khShut => 9 | .khOpen => 10 | .ohShut => 11 | .ohOpen => 12
  | .gate0 => 13 | .gate1 => 14 | .heightValid => 15 | .tiltValid => 16 | .pressureValid => 17

def Cond.all : List Cond :=
  [.parked, .standstill, .estopClear, .ignitionOn, .supplyNormal, .supplyUsable, .stowed, .atGround, .liftAtBed,
   .khShut, .khOpen, .ohShut, .ohOpen, .gate0, .gate1, .heightValid, .tiltValid, .pressureValid]

def Cond.ofIx (i : Fin 18) : Cond := Cond.all.get i

/-- The condition a gate names (R55). -/
def Gate.cond : Gate → Cond
  | .gate0 => .gate0 | .gate1 => .gate1

/-- GATE0 and GATE1 are hold-class, the other conditions stop-class (R56). -/
def Cond.isHold : Cond → Bool
  | .gate0 | .gate1 => true
  | _ => false

/-- The selection of the conditions for which `f` is true. -/
def CondSet.of (f : Cond → Bool) : CondSet := Table.ofFn fun i => f (Cond.ofIx i)

def CondSet.has (t : CondSet) (c : Cond) : Bool := t.get c.ix

/-- The empty selection. -/
def CondSet.empty : CondSet := Table.fill 18 false

/-- Every condition of the selection is true (R56). -/
def CondSet.within (need conds : CondSet) : Bool := Cond.all.all fun c => !need.has c || conds.has c

/-- The number whose bit n is the flag of place n (R183). -/
def flagsToNat : List Bool → Nat
  | [] => 0
  | b :: bs => b.toNat + 2 * flagsToNat bs

def CondSet.toNat (t : CondSet) : Nat := flagsToNat t.cells

/-- The selection whose flags are the bits of `n`. -/
def CondSet.ofNat (n : Nat) : CondSet := Table.ofFn fun i => n.testBit i.val

def Func.ix : Func → Fin 12
  | .pump => 0 | .lower => 1 | .tiltv => 2 | .khatchv => 3 | .ohatchv => 4 | .divert => 5 | .lamp0 => 6 | .lamp1 => 7
  | .lamp2 => 8 | .lamp3 => 9 | .aux0 => 10 | .aux1 => 11

def Func.all : List Func :=
  [.pump, .lower, .tiltv, .khatchv, .ohatchv, .divert, .lamp0, .lamp1, .lamp2, .lamp3, .aux0, .aux1]

def Func.ofIx (i : Fin 12) : Func := Func.all.get i

/-- The function a lamp channel drives (R116). -/
def lampFunc (n : Lamp) : Func := [Func.lamp0, Func.lamp1, Func.lamp2, Func.lamp3].get n

/-- The lamp channel a function belongs to, if it is a lamp function. -/
def Func.lamp? : Func → Option Lamp
  | .lamp0 => some 0 | .lamp1 => some 1 | .lamp2 => some 2 | .lamp3 => some 3
  | _ => none

/-- The power functions (R132). -/
def Func.isPower : Func → Bool
  | .pump | .lower | .tiltv | .khatchv | .ohatchv | .divert => true
  | .lamp0 | .lamp1 | .lamp2 | .lamp3 | .aux0 | .aux1 => false

def ResetKind.ix : ResetKind → Fin 5
  | .powerOn => 0 | .pin => 1 | .brownOut => 2 | .clock => 3 | .restart => 4

/-! ### Codes of frames (R161, R176, R183) -/

def SlotState.code : SlotState → Nat
  | .idle => 0 | .waiting => 1 | .priming => 2 | .running => 3 | .holding => 4 | .settling => 5 | .blocked => 6

def Ending.code : Ending → Nat
  | .none => 0 | .reached => 1 | .released => 2 | .lapsed => 3 | .cancelled => 4 | .stopped => 5 | .conflict => 6
  | .interlock => 7 | .sensorFault => 8 | .driverFault => 9 | .pumpFault => 10 | .overload => 11 | .timeout => 12
  | .lowSupply => 13 | .beaconFault => 14 | .gateTimeout => 15

def HatchPos.code : HatchPos → Nat
  | .shut => 0 | .opened => 1 | .between => 2 | .unknown => 3

def Zone.code : Zone → Nat
  | .normal => 0 | .sag => 1 | .low => 2

/-- DORMANT answers no frame, so the STATUS record has no code for it; 5 is never sent. -/
def DeviceState.code : DeviceState → Nat
  | .startup => 0 | .unconfigured => 1 | .config => 2 | .ready => 3 | .stopped => 4 | .dormant => 5

def FaultKind.code : FaultKind → Nat
  | .estop => 0x01 | .vehicleMoved => 0x02 | .sensorRange => 0x03 | .sensorLost => 0x04 | .hatchSwitch => 0x05
  | .driverOpen => 0x06 | .driverShort => 0x07 | .lampOpen => 0x08 | .pumpNoRun => 0x09 | .pumpRunLost => 0x0A
  | .pumpStuck => 0x0B | .overload => 0x0C | .runTimeout => 0x0D | .lowSupply => 0x0E | .sequenceOverrun => 0x0F

def FaultKind.all : List FaultKind :=
  [.estop, .vehicleMoved, .sensorRange, .sensorLost, .hatchSwitch, .driverOpen, .driverShort, .lampOpen, .pumpNoRun,
   .pumpRunLost, .pumpStuck, .overload, .runTimeout, .lowSupply, .sequenceOverrun]

/-- The condition kinds (R161); the others are event kinds. -/
def FaultKind.isCondition : FaultKind → Bool
  | .estop | .sensorRange | .sensorLost | .hatchSwitch | .pumpStuck | .lowSupply => true
  | _ => false

def Subject.code : Subject → Nat
  | .none => 0xFF
  | .actuator a => a.ix.val
  | .sensor m => m.ix.val
  | .chan c => c.val
  | .lamp n => n.val
  | .ctx c => c.val

def Result.code : Result → Byte
  | .accepted => 0x00 | .clamped => 0x01 | .atLimit => 0x02 | .refusedRole => 0x10 | .refusedState => 0x11
  | .busy => 0x12 | .conflict => 0x13 | .blocked => 0x14 | .notConfigured => 0x15 | .badParam => 0x16
  | .notOwner => 0x17 | .unknownRequest => 0x18 | .configInvalid => 0x19

def CtxState.code : CtxState → Nat
  | .idle => 0 | .active => 1 | .paused => 2

def RunResult.code : RunResult → Nat
  | .none => 0 | .done => 1 | .stepFailed => 2 | .overrun => 3 | .lapsed => 4 | .cancelled => 5 | .stopped => 6

/-- The class of an outcome (1.7). NONE is no outcome of a motion. -/
def Ending.cls : Ending → EndClass
  | .none | .reached | .released | .lapsed | .cancelled | .stopped => .normal
  | .conflict | .interlock | .sensorFault | .driverFault | .pumpFault | .overload | .timeout | .lowSupply | .beaconFault
  | .gateTimeout => .blocking

/-- Settling-class outcomes; the others are immediate (1.7). -/
def Ending.isSettling : Ending → Bool
  | .reached | .released | .lapsed | .cancelled | .timeout | .overload | .lowSupply | .beaconFault => true
  | .none | .stopped | .conflict | .interlock | .sensorFault | .driverFault | .pumpFault | .gateTimeout => false

/-- A slot in PRIMING, RUNNING, HOLDING or SETTLING: it holds its circuit's grant (R24), and it is announcing (R120). -/
def SlotState.granted : SlotState → Bool
  | .priming | .running | .holding | .settling => true
  | .idle | .waiting | .blocked => false

end Sys2Proof.Machine
end

