-- ==== Sys2Proof/Machine/Operands.lean ====
section
/-! DEFINITION. Reading operands from the parameter bytes of a request and writing numbers into frames: byte order, codes,
ranges (R176, R180). -/

namespace Sys2Proof.Machine

/-- The number that bytes give, the most significant first (R176). -/
def natOfBytes (bs : List Byte) : Nat := bs.foldl (fun n b => 256 * n + b.toNat) 0

/-- The `width` bytes of a number, the most significant first (R176). -/
def bytesOfNat : Nat → Nat → List Byte
  | 0, _ => []
  | width + 1, n => bytesOfNat width (n / 256) ++ [byte n]

/-- The code of an absent value (R176). -/
def absentByte : Byte := 0xFF

/-- A number brought to the nearer limit of its range (R180). -/
def clampTo (low high n : Nat) : Nat := max low (min n high)

/-- A pattern on-time of 1 to 5 becomes 6 (R117). -/
def clampOn (n : Nat) : Nat := if n = 0 then 0 else max 6 n

/-- A one-byte code that is absent, or a number below `n`; none when it is neither. -/
def indexOrAbsent (n : Nat) (b : Byte) : Option (Option (Fin n)) :=
  if h : b.toNat < n then some (some ⟨b.toNat, h⟩) else if b = absentByte then some none else none

/-- A number below `n`. -/
def indexOfByte (n : Nat) (b : Byte) : Option (Fin n) :=
  if h : b.toNat < n then some ⟨b.toNat, h⟩ else none

/-- The byte of an index, or 0xFF when it is absent. -/
def byteOfIndex {n : Nat} (i : Option (Fin n)) : Byte :=
  match i with
  | some i => byte i.val
  | none => absentByte

/-- The flags of a one-byte selection of `n` members; none when it names anything outside its set (R180). -/
def flagsOfByte (n : Nat) (b : Byte) : Option (Table Bool n) :=
  if b.toNat < 2 ^ n then some (Table.ofFn fun i => b.toNat.testBit i.val) else none

/-- The byte of a selection: place n is bit n. -/
def byteOfFlags {n : Nat} (t : Table Bool n) : Byte := byte (flagsToNat t.cells)

/-- A flag coded 0 or 1. -/
def boolOfByte (b : Byte) : Option Bool :=
  if b = 0 then some false else if b = 1 then some true else none

def byteOfBool (b : Bool) : Byte := if b then 1 else 0

/-- A three-byte selection of conditions; none when it names a condition above 17 (R180). -/
def condsOfNat (n : Nat) : Option CondSet := if n < 2 ^ 18 then some (CondSet.ofNat n) else none

/-- An entry of the output map: a function's code, or 0x0F for NONE; none for any other value (R133, R176). -/
def mapEntryOfByte (b : Byte) : Option (Option Func) :=
  if b = 0x0F then some none else (Func.all[b.toNat]?).map some

def byteOfMapEntry (f : Option Func) : Byte :=
  match f with
  | some f => byte f.ix.val
  | none => 0x0F

/-- An optional gate (R96). -/
def gateOfByte (b : Byte) : Option (Option Gate) :=
  if b = 0 then some (some .gate0) else if b = 1 then some (some .gate1)
  else if b = absentByte then some none else none

def byteOfGate (g : Option Gate) : Byte :=
  match g with
  | some .gate0 => 0
  | some .gate1 => 1
  | none => absentByte

def biasOfByte (b : Byte) : Option Bias :=
  if b = 0 then some .up else if b = 1 then some .down else if b = 2 then some .none else none

def byteOfBias : Bias → Byte
  | .up => 0 | .down => 1 | .none => 2

def polarityOfByte (b : Byte) : Option Polarity :=
  if b = 0 then some .activeHigh else if b = 1 then some .activeLow else none

def byteOfPolarity : Polarity → Byte
  | .activeHigh => 0 | .activeLow => 1

/-- The kind an ACK names (R161). -/
def kindOfByte (b : Byte) : Option FaultKind :=
  if b = 0 then none else FaultKind.all[b.toNat - 1]?

/-- The subject an ACK names, of the type R161 gives for the kind (R164, log 29). -/
def subjectOfByte (k : FaultKind) (b : Byte) : Option Subject :=
  match k with
  | .estop | .vehicleMoved | .pumpNoRun | .pumpRunLost | .pumpStuck | .lowSupply =>
    if b = absentByte then some .none else none
  | .sensorRange | .sensorLost => (Sensor.all[b.toNat]?).map .sensor
  | .hatchSwitch => if b = 2 then some (.actuator .khatch) else if b = 3 then some (.actuator .ohatch) else none
  | .driverOpen | .driverShort => (indexOfByte 12 b).map .chan
  | .lampOpen => (indexOfByte 4 b).map .lamp
  | .overload => if b = 0 then some (.actuator .lift) else none
  | .runTimeout => (Actuator.ofByte b).map .actuator
  | .sequenceOverrun => (indexOfByte 2 b).map .ctx

end Sys2Proof.Machine
end

