-- ==== Sys2Proof/Config.lean ====
section
/-! DEFINITION. What one implementation fixes and the manual does not state: constants with no body, so that no proof can
see their value. -/

namespace Sys2Proof

/-- One less than the count a main oscillator at its rated frequency gives over one period of the slow oscillator. R154 names
that count and gives no number (log 19). -/
opaque Config.nominalPredecessor : Nat

/-- The count of R154, which is positive: a main oscillator that has stopped, with count 0, departs from it by 100 %. -/
def Config.nominalCount : Nat := Config.nominalPredecessor + 1

/-- The level read at an undriven pin whose bias is NONE, for each draw of a free value. R43: the part cannot tell an
open wire on such an input from either level. A strap that nothing drives, which has no bias, reads one too (log 9). -/
opaque Config.floatingLevel : Nat → Bool

/-- The quotient u * 24000 / Vbat of R88 at a battery average of 0, for which the manual states none (log 20). -/
opaque Config.quotientAtZeroBattery : Nat → Nat

/-- Whether the first filling of the battery window into LOW posts LOW_SUPPLY when the table holds no such entry: the
words of R152, "a defined zone becomes LOW", leave it open (log 21). -/
opaque Config.firstLowPosts : Bool

/-- The code byte of the reply to a request whose code is 0x80 or more: R183's request code + 0x80 does not fit the byte, and
the manual states no other (log 34). -/
opaque Config.replyCodeBeyond : Byte → Byte

end Sys2Proof
end

