-- ==== Sys2Proof/Machine/Defaults.lean ====
section
/-! DEFINITION. The value of every record after a reset, and the defaults of the nine configuration tables. -/

namespace Sys2Proof.Machine

/-- The extra mask of TILT powered (R179). -/
def onlyLiftAtBed : CondSet := CondSet.of fun c => decide (c = .liftAtBed)

/-- R43's defaults. -/
def defaultInput : Input → InputSetup
  | .speed => ⟨.none, .activeHigh⟩
  | .estop => ⟨.up, .activeHigh⟩
  | _ => ⟨.up, .activeLow⟩

/-- The default motion policy (R179). -/
def defaultPolicy : Table Policy 8 :=
  ⟨[⟨4, true, false, 30, CondSet.empty⟩, ⟨5, true, false, 30, CondSet.empty⟩,
    ⟨4, true, false, 15, onlyLiftAtBed⟩, ⟨5, true, false, 15, CondSet.empty⟩,
    ⟨3, true, true, 20, CondSet.empty⟩, ⟨6, true, true, 20, CondSet.empty⟩,
    ⟨3, true, true, 20, CondSet.empty⟩, ⟨6, true, true, 20, CondSet.empty⟩], rfl⟩

/-- The mask LIFT, TILT. -/
def rearMask : Table Bool 4 := ⟨[true, true, false, false], rfl⟩

/-- The mask KHATCH, OHATCH. -/
def sideMask : Table Bool 4 := ⟨[false, false, true, true], rfl⟩

/-- The default LAMP table (R128). -/
def defaultLamps : Table LampCfg 4 :=
  ⟨[⟨rearMask, true, true, ⟨40, 40⟩, ⟨10, 10⟩, ⟨50, 50⟩, 3000⟩,
    ⟨sideMask, true, true, ⟨40, 40⟩, ⟨10, 10⟩, ⟨50, 50⟩, 3000⟩,
    ⟨rearMask, false, false, ⟨40, 40⟩, ⟨0, 0⟩, ⟨50, 50⟩, 3000⟩,
    ⟨sideMask, false, false, ⟨100, 0⟩, ⟨0, 0⟩, ⟨50, 50⟩, 3000⟩], rfl⟩

/-- The default tables (R179 and the rules it names). -/
def defaultTables : Tables where
  outputMap := Table.fill 12 none
  inputSetup := Table.ofFn fun i => defaultInput (Input.ofIx i)
  policy := defaultPolicy
  scaling := ⟨1200, 1100, 1050, 900, 5, 10⟩
  profile := ⟨250, 900, 80, 25, 40, 30, 180⟩
  lamps := defaultLamps
  steps := Table.fill 32 .empty
  entries := Table.fill 8 ⟨none, false⟩
  timing := ⟨20, 500, 0, 1000, 10⟩

/-- R1's last column. -/
def resetSlot : Slot where
  state := .idle
  stroke := none
  target := none
  holders := LinkTimers.none
  owner := none
  reportTo := none
  watch := LinkTimers.none
  endClass := none
  runTimer := 0
  holdTimer := none
  outcome := .none
  u := 0
  need := CondSet.empty
  runDown := none

/-- R24, R25, R26, R35. -/
def resetArbiter : Arbiter := ⟨Table.fill 2 none, none, [], Table.fill 4 .stopped⟩

/-- R41. -/
def resetStuck : StuckWatch := ⟨none, false⟩

/-- R79, R94. -/
def resetProfile : Profile := ⟨0, none, none⟩

/-- R46, R47, R49, R50, R57. -/
def resetPermit : Permit where
  standstill := false
  lastRise := none
  quiet := none
  hatch := Table.fill 2 .between
  switchFault := Table.fill 2 false
  conds := CondSet.empty
  ready := Table.fill 8 false

/-- R62's last column. -/
def resetCapture : Capture := ⟨none, [], 0, false, 0, none, false, false⟩

/-- R98's last column. -/
def resetContext : Context := ⟨.idle, none, none, false, none, .none, 0, none, none, none, .none⟩

/-- R116's last column. -/
def resetLamp : LampRec := ⟨.none, .absent, false, none, 0, false, none, none, none, none, .unknown⟩

/-- R131's last column. -/
def resetChan : ChanRec := ⟨.off, 0, 0, none, none, false⟩

/-- R131, R132. -/
def resetBank : Bank := ⟨Table.fill 12 .off, Table.fill 12 resetChan⟩

/-- R151, R152, R154: the first sample is taken at the start of STARTUP. -/
def resetSupply : Supply := ⟨[], .low, false, some (ms 10), some 0⟩

/-- R160. -/
def resetFaults : FaultTable := ⟨[], false⟩

/-- R142's last column. -/
def resetDevice : Device := ⟨.startup, some 0, false, none, none, none, none, false, none, none⟩

/-- The four role plans (R174). -/
def rolePlan (strap1 strap0 : Bool) : Link → Role := fun l =>
  match strap1, strap0 with
  | false, false => [Role.cab, .rear, .kerb, .service].get l
  | false, true => [Role.cab, .rear, .rear, .service].get l
  | true, false => [Role.cab, .rear, .kerb, .kerb].get l
  | true, true => [Role.cab, .rear, .absent, .service].get l

/-- No reset kind. -/
def noCauses : Table Bool 5 := Table.fill 5 false

/-- R169's last column, for a link of role `r` with the reset-cause set `causes`. -/
def resetLink (r : Role) (causes : Table Bool 5) : LinkRec := ⟨r, .hunt, none, causes, none, none⟩

/-- The level of a pin that nothing drives (R43). With bias NONE it is the level the caller gives. -/
def undrivenLevel (b : Bias) (floating : Bool) : Bool :=
  match b with
  | .up => true
  | .down => false
  | .none => floating

/-- The level read at a pin (R43). -/
def pinLevel (d : Drive) (b : Bias) (floating : Bool) : Bool :=
  match d with
  | .high => true
  | .low => false
  | .undriven => undrivenLevel b floating

end Sys2Proof.Machine
end

