-- ==== Sys2Proof/Machine/State.lean ====
section
/-! DEFINITION. The state of the part: one field for each block's records, the configuration tables, the pins, the queue of
commands that are waiting, and the internal arrivals of the step in hand. -/

namespace Sys2Proof.Machine

/-- Why a command would stop the part: nothing does. No rule of the spec calls a command undefined or lets one stop the
part; its own faults are entries of the fault table (R160). -/
inductive Fault where
  deriving DecidableEq, Repr

/-- Why a command has no meaning in this model. -/
inductive Refusal where
  /-- raised by an arm of `exec` for a command without a meaning (none is left); safe -/
  | notModelled (mnemonic : String)
  deriving DecidableEq, Repr

/-- The state of the part. -/
structure State where
  pins : Pins
  links : Table LinkRec 4
  slots : Table Slot 4
  arbiter : Arbiter
  stuck : StuckWatch
  profile : Profile
  inputs : Table InputRec 13
  permit : Permit
  counter : BitVec 16
  captures : Table Capture 3
  contexts : Table Context 2
  lamps : Table LampRec 4
  bank : Bank
  supply : Supply
  faults : FaultTable
  device : Device
  tables : Tables
  /-- how many free values have been drawn (the model's own) -/
  draws : Nat
  /-- the commands that are waiting, first in, first out -/
  pending : List Instr
  /-- the internal arrivals still to be handed on in the present step (the model's own) -/
  agenda : List Arrival
  deriving DecidableEq, Repr

/-- What drives a pin at `State.reset`: nothing, but SPEED, whose bias is NONE, is driven low (DESIGN CHOICE, log 8). -/
def resetDrive : Input → Drive
  | .speed => .low
  | _ => .undriven

/-- A digital input right after a reset: UNSETTLED, its stability timer running from the start of STARTUP (R44, R46). -/
def resetInput (d : Drive) (b : Bias) (floating : Bool) : InputRec := ⟨d, pinLevel d b floating, none, some 0⟩

/-- The reset-cause set of a POWER-ON reset (R159). -/
def powerOnCauses : Table Bool 5 := noCauses.set ResetKind.powerOn.ix true

/-- The part right after a POWER-ON reset, with no command waiting. -/
def State.reset : State where
  pins := ⟨false, false, false⟩
  links := Table.ofFn fun l => resetLink (rolePlan false false l) powerOnCauses
  slots := Table.fill 4 resetSlot
  arbiter := resetArbiter
  stuck := resetStuck
  profile := resetProfile
  inputs := Table.ofFn fun i =>
    resetInput (resetDrive (Input.ofIx i)) (defaultInput (Input.ofIx i)).bias false
  permit := resetPermit
  counter := 0
  captures := Table.fill 3 resetCapture
  contexts := Table.fill 2 resetContext
  lamps := Table.fill 4 resetLamp
  bank := resetBank
  supply := resetSupply
  faults := resetFaults
  device := resetDevice
  tables := defaultTables
  draws := 0
  pending := []
  agenda := []

end Sys2Proof.Machine
end

