-- ==== Sys2Proof/Machine/Ops.lean ====
section
/-! DEFINITION. Named reads and writes of the records of State, timers, and the handing on of internal arrivals. -/

namespace Sys2Proof.Machine

/-! ### Records -/

def State.slot (s : State) (a : Actuator) : Slot := s.slots.get a.ix

def State.setSlot (s : State) (a : Actuator) (r : Slot) : State := { s with slots := s.slots.set a.ix r }

def State.link (s : State) (l : Link) : LinkRec := s.links.get l

def State.setLink (s : State) (l : Link) (r : LinkRec) : State := { s with links := s.links.set l r }

def State.input (s : State) (i : Input) : InputRec := s.inputs.get i.ix

def State.setInput (s : State) (i : Input) (r : InputRec) : State := { s with inputs := s.inputs.set i.ix r }

def State.capture (s : State) (m : Sensor) : Capture := s.captures.get m.ix

def State.setCapture (s : State) (m : Sensor) (r : Capture) : State := { s with captures := s.captures.set m.ix r }

def State.context (s : State) (c : Ctx) : Context := s.contexts.get c

def State.setContext (s : State) (c : Ctx) (r : Context) : State := { s with contexts := s.contexts.set c r }

def State.lamp (s : State) (n : Lamp) : LampRec := s.lamps.get n

def State.setLamp (s : State) (n : Lamp) (r : LampRec) : State := { s with lamps := s.lamps.set n r }

def State.chan (s : State) (c : Chan) : ChanRec := s.bank.channels.get c

def State.setChan (s : State) (c : Chan) (r : ChanRec) : State :=
  { s with bank := { s.bank with channels := s.bank.channels.set c r } }

def State.request (s : State) (f : Func) : Request := s.bank.requests.get f.ix

def State.setRequest (s : State) (f : Func) (r : Request) : State :=
  { s with bank := { s.bank with requests := s.bank.requests.set f.ix r } }

def State.grant (s : State) (c : Circuit) : Option Actuator := s.arbiter.grants.get c.ix

def State.setGrant (s : State) (c : Circuit) (g : Option Actuator) : State :=
  { s with arbiter := { s.arbiter with grants := s.arbiter.grants.set c.ix g } }

def State.prime (s : State) (a : Actuator) : PrimeTimer := s.arbiter.prime.get a.ix

def State.setPrime (s : State) (a : Actuator) (t : PrimeTimer) : State :=
  { s with arbiter := { s.arbiter with prime := s.arbiter.prime.set a.ix t } }

def State.setDeviceState (s : State) (d : DeviceState) : State := { s with device := { s.device with state := d } }

def State.policy (s : State) (a : Actuator) (k : Stroke) : Policy := s.tables.policy.get (strokeIx a k)

def State.lampCfg (s : State) (n : Lamp) : LampCfg := s.tables.lamps.get n

def State.setup (s : State) (i : Input) : InputSetup := s.tables.inputSetup.get i.ix

def State.cond (s : State) (c : Cond) : Bool := s.permit.conds.has c

def State.ready (s : State) (a : Actuator) (k : Stroke) : Bool := s.permit.ready.get (strokeIx a k)

def State.hatchPos (s : State) (h : Hatch) : HatchPos := s.permit.hatch.get h.ix

/-- The device serves and derives: UNCONFIGURED, CONFIG, READY or STOPPED (R46, R129). -/
def State.awake (s : State) : Bool :=
  match s.device.state with
  | .unconfigured | .config | .ready | .stopped => true
  | .startup | .dormant => false

/-- Every slot is IDLE. -/
def State.slotsIdle (s : State) : Bool := Actuator.all.all fun a => decide ((s.slot a).state = .idle)

/-- Both sequence contexts are IDLE. -/
def State.contextsIdle (s : State) : Bool := s.contexts.cells.all fun c => decide (c.state = .idle)

/-! ### Arrivals and free values -/

/-- Hands an arrival on, behind those already handed on in this arrival. -/
def State.push (s : State) (x : Arrival) : State := { s with agenda := s.agenda ++ [x] }

/-- Hands several arrivals on, in order. -/
def State.pushAll (s : State) (xs : List Arrival) : State := { s with agenda := s.agenda ++ xs }

/-- The next free level of an undriven pin with bias NONE (log 9). -/
def State.freeLevel (s : State) : Bool := Config.floatingLevel s.draws

/-! ### Timers -/

/-- The timer is running, or held, at `limit` or beyond. -/
def timerAt (t : Option Nat) (limit : Nat) : Bool :=
  match t with
  | some v => decide (limit ≤ v)
  | none => false

/-- A timer one microsecond later: a stopped one stays stopped, a running one counts up to `limit` and stays there. -/
def runTimer (limit : Nat) (t : Option Nat) : Option Nat :=
  t.map fun v => if v < limit then v + 1 else v

/-- The refresh window, in microseconds (R7, R179). -/
def State.refreshWindow (s : State) : Nat := ms (10 * s.tables.timing.refresh)

/-- The lead time, in microseconds (R36). -/
def State.leadTime (s : State) : Nat := ms s.tables.timing.lead

/-- The prime limit, in microseconds (R38). -/
def State.primeLimit (s : State) : Nat := ms s.tables.timing.primeLimit

/-- The trail in force of a lamp, in microseconds (R120). -/
def State.trailInForce (s : State) (n : Lamp) : Nat := ms (max (s.lampCfg n).trail s.tables.timing.trailBase)

/-- The dormancy delay, in microseconds (R155). -/
def State.dormancyDelay (s : State) : Nat := ms (60000 * s.tables.timing.dormancy)

/-- The run limit of a stroke, in microseconds (R13). -/
def State.runLimit (s : State) (a : Actuator) (k : Stroke) : Nat := ms (1000 * (s.policy a k).runLimit)

end Sys2Proof.Machine
end

