-- ==== Sys2Proof/Machine/Flags.lean ====
section
/-! DEFINITION. The facts the Permit Logic derives: asserted inputs, hatch positions, the eighteen permit conditions,
requirement sets, the strokes a fault entry covers, and stroke readiness. -/

namespace Sys2Proof.Machine

/-! ### Inputs and hatches -/

/-- The asserted state that a settled level gives under a polarity (R43). -/
def Polarity.asserts (p : Polarity) (level : Bool) : Bool :=
  match p with
  | .activeHigh => level
  | .activeLow => !level

/-- Asserted, de-asserted, or UNSETTLED (R43, R44). Not used for SPEED, which has no debounced level. -/
def State.asserted? (s : State) (i : Input) : Option Bool :=
  (s.input i).debounced.map (s.setup i).polarity.asserts

/-- The input is asserted; an UNSETTLED input is not (R44). -/
def State.asserted (s : State) (i : Input) : Bool := decide (s.asserted? i = some true)

/-- The input is de-asserted; an UNSETTLED input is not (R44). -/
def State.deasserted (s : State) (i : Input) : Bool := decide (s.asserted? i = some false)

def Hatch.shutSwitch : Hatch → Input
  | .kerbside => .kshut | .offside => .oshut

def Hatch.openSwitch : Hatch → Input
  | .kerbside => .kopen | .offside => .oopen

/-- The other end switch of the same hatch (R49). -/
def otherSwitch : Input → Option Input
  | .kshut => some .kopen | .kopen => some .kshut | .oshut => some .oopen | .oopen => some .oshut
  | .park | .ign | .speed | .estop | .stow | .ground | .gate0 | .gate1 | .pumprun => none

/-- The position two end switches give (R49). -/
def hatchPosOf (shut opened : Option Bool) : HatchPos :=
  match shut, opened with
  | some true, some false => .shut
  | some false, some true => .opened
  | some false, some false => .between
  | some true, some true => .unknown
  | _, _ => .between

/-- The position of a hatch as its switches and the device state give it (R46, R49). -/
def State.hatchNow (s : State) (h : Hatch) : HatchPos :=
  if s.awake then hatchPosOf (s.asserted? h.shutSwitch) (s.asserted? h.openSwitch) else .between

/-! ### Conditions -/

/-- The truth of a condition outside STARTUP and DORMANT (R51, R52). -/
def State.condSource (s : State) : Cond → Bool
  | .parked => s.asserted .park
  | .standstill => s.permit.standstill
  | .estopClear => s.deasserted .estop
  | .ignitionOn => s.asserted .ign
  | .supplyNormal => decide (s.supply.zone = .normal)
  | .supplyUsable => decide (s.supply.zone ≠ .low)
  | .stowed => s.asserted .stow
  | .atGround => s.asserted .ground
  | .liftAtBed =>
    (s.capture .height).valid && decide (s.tables.scaling.hbed - s.tables.scaling.sbH ≤ (s.capture .height).reported)
  | .khShut => decide (s.hatchPos .kerbside = .shut)
  | .khOpen => decide (s.hatchPos .kerbside = .opened)
  | .ohShut => decide (s.hatchPos .offside = .shut)
  | .ohOpen => decide (s.hatchPos .offside = .opened)
  | .gate0 => s.asserted .gate0
  | .gate1 => s.asserted .gate1
  | .heightValid => (s.capture .height).valid
  | .tiltValid => (s.capture .tilt).valid
  | .pressureValid => (s.capture .pressure).valid

/-- The eighteen conditions as their sources stand; all false in STARTUP and DORMANT (R46, R51). -/
def State.condsNow (s : State) : CondSet := CondSet.of fun c => s.awake && s.condSource c

/-! ### Requirement sets -/

/-- The base set of a stroke (R54). -/
def baseSet (a : Actuator) (k : Stroke) (c : Cond) : Bool :=
  match c with
  | .parked | .standstill | .estopClear => true
  | .supplyUsable => decide (k = .powered)
  | .heightValid | .pressureValid => decide (a = .lift)
  | .tiltValid => decide (a = .tilt)
  | _ => false

/-- The requirement set of a motion (R55). -/
def State.requirement (s : State) (a : Actuator) (k : Stroke) (gate : Option Gate) : CondSet :=
  CondSet.of fun c => baseSet a k c || (s.policy a k).extra.has c || decide (gate.map Gate.cond = some c)

/-- Every hold-class condition of the set holds (R15). -/
def holdClassHolds (need conds : CondSet) : Bool :=
  Cond.all.all fun c => !(c.isHold && need.has c) || conds.has c

/-! ### Output map -/

/-- The channel that carries a function: the lowest-numbered whose entry names it (R133, R134). -/
def State.carrier (s : State) (f : Func) : Option Chan :=
  (List.finRange 12).find? fun c => decide (s.tables.outputMap.get c = some f)

/-- The function is mapped: exactly one entry names it (R133). -/
def State.mapped (s : State) (f : Func) : Bool :=
  ((List.finRange 12).filter fun c => decide (s.tables.outputMap.get c = some f)).length == 1

/-- Some channel carries the function, which is what readiness calls mapped while the live map names it more than once
(R134). -/
def State.carried (s : State) (f : Func) : Bool := (s.carrier f).isSome

/-- The valve function of an actuator's strokes other than LIFT's. -/
def valveOf : Actuator → Func
  | .lift => .lower | .tilt => .tiltv | .khatch => .khatchv | .ohatch => .ohatchv

/-- The output functions a stroke uses (R34). -/
def strokeFuncs (a : Actuator) (k : Stroke) : List Func :=
  match a, k with
  | .lift, .powered => [.pump]
  | .lift, .ret => [.lower]
  | .tilt, .powered => [.pump, .tiltv]
  | .tilt, .ret => [.tiltv]
  | .khatch, .powered => [.pump, .divert, .khatchv]
  | .khatch, .ret => [.khatchv]
  | .ohatch, .powered => [.pump, .divert, .ohatchv]
  | .ohatch, .ret => [.ohatchv]

/-- Every function the stroke uses is mapped (R3, check 4). -/
def State.strokeMapped (s : State) (a : Actuator) (k : Stroke) : Bool :=
  (strokeFuncs a k).all s.mapped

/-- Every function the stroke uses is mapped in the sense of readiness (R57, R134). -/
def State.strokeCarried (s : State) (a : Actuator) (k : Stroke) : Bool :=
  (strokeFuncs a k).all s.carried

/-! ### Coverage and readiness -/

/-- The sensor's entries cover the strokes of this actuator (R58). -/
def sensorCovers : Sensor → Actuator → Bool
  | .height, a | .pressure, a => decide (a = .lift)
  | .tilt, a => decide (a = .tilt)

/-- The entry covers the stroke under the present output map and lamp configuration (R58). The function mapped to a channel is
the one its map entry names, also while another entry names it too (CONFIG, or UNCONFIGURED after an owner lapse) and R134 has the
lowest-numbered channel carry it: an entry on the higher-numbered channel then covers the function's strokes (DESIGN CHOICE,
log 39). -/
def Tables.covers (t : Tables) (e : FaultEntry) (a : Actuator) (k : Stroke) : Bool :=
  match e.kind, e.subject with
  | .sensorRange, .sensor m | .sensorLost, .sensor m => sensorCovers m a
  | .hatchSwitch, .actuator h => decide (a = h)
  | .driverOpen, .chan c | .driverShort, .chan c =>
    match t.outputMap.get c with
    | some f => (strokeFuncs a k).contains f
    | none => false
  | .pumpStuck, _ => decide (k = .powered)
  | .lampOpen, .lamp n => (t.lamps.get n).required && (t.lamps.get n).mask.get a.ix
  | _, _ => false

/-- The entry covers at least one stroke (R161). -/
def Tables.blocking (t : Tables) (e : FaultEntry) : Bool := allStrokes.any fun (a, k) => t.covers e a k

/-- Some entry of the table is blocking (R121, 10.6). -/
def State.someBlocking (s : State) : Bool := s.faults.entries.any s.tables.blocking

/-- A channel carrying a function of the stroke is TRIPPED (R57). -/
def State.strokeTripped (s : State) (a : Actuator) (k : Stroke) : Bool :=
  (strokeFuncs a k).any fun f =>
    match s.carrier f with
    | some c => decide ((s.chan c).drive = .tripped)
    | none => false

/-- An entry of one of these kinds covers the stroke. -/
def State.coveredBy (s : State) (kinds : List FaultKind) (a : Actuator) (k : Stroke) : Bool :=
  s.faults.entries.any fun e => kinds.contains e.kind && s.tables.covers e a k

/-- A lamp marked required whose mask includes the actuator is FAILED (R59). -/
def State.lampFailedFor (s : State) (a : Actuator) : Bool :=
  (List.finRange 4).any fun n =>
    (s.lampCfg n).required && (s.lampCfg n).mask.get a.ix && decide ((s.lamp n).proven = .failed)

/-- Why the stroke is not ready, the first cause in one fixed order, or none when it is ready (R57, R60; the order matters
only where one arrival brings several causes at once, log 4). -/
def State.notReadyCause (s : State) (a : Actuator) (k : Stroke) : Option Cause :=
  if s.strokeTripped a k then some .tripped
  else if s.coveredBy [.driverOpen, .driverShort] a k then some .driverEntry
  else if s.lampFailedFor a || s.coveredBy [.lampOpen] a k then some .lampFailed
  else if s.coveredBy [.sensorRange, .sensorLost] a k then some .sensorEntry
  else if s.coveredBy [.hatchSwitch] a k then some .hatchSwitch
  else if s.coveredBy [.pumpStuck] a k then some .pumpStuck
  else if s.faults.full then some .fullFlag
  else if !s.strokeCarried a k then some .unmapped
  else none

/-- The outcome a cause gives a granted slot (R17). -/
def Cause.ending : Cause → Ending
  | .tripped | .driverEntry => .driverFault
  | .lampFailed => .beaconFault
  | .sensorEntry => .sensorFault
  | .hatchSwitch | .pumpStuck | .fullFlag | .unmapped => .interlock

end Sys2Proof.Machine
end

