-- ==== Sys2Proof/Machine/Lamps.lean ====
section
/-! DEFINITION. The Lamp Controller: patterns, demands and the class in force, the lead clock, turn-ons (R116 to R130). -/

namespace Sys2Proof.Machine

/-- The function of the lamp is asked for on (R118). -/
def LampRec.lit (r : LampRec) : Bool := decide (r.cls ≠ .none) && r.phaseOn

/-- The class in force: FAULT over MOTION over MANUAL (R118). -/
def LampRec.classNow (r : LampRec) : LampClass :=
  if r.fault then .fault
  else if r.motion ≠ .absent then .motion
  else if r.manual.isSome then .manual
  else .none

/-- The pattern a class uses (R118). -/
def LampRec.patternOf (r : LampRec) (cfg : LampCfg) : LampClass → Pattern
  | .fault => cfg.fault
  | .motion => cfg.motion
  | .manual => match r.manual with
    | some m => m.pattern
    | none => cfg.manual
  | .none => ⟨0, 0⟩

/-- The phase a pattern starts in under a class: ON, but MANUAL starts in its start phase (R119). -/
def LampRec.startsOn (r : LampRec) : LampClass → Bool
  | .manual => match r.manual with
    | some m => m.startOn
    | none => true
  | _ => true

/-- A pattern starts from its beginning: steady off in OFF, steady on in ON, flashing in the phase given (R117, R119). -/
def LampRec.startPattern (r : LampRec) (p : Pattern) (startOn : Bool) : LampRec :=
  if p.on = 0 then { r with phaseOn := false, phaseTimer := none }
  else if p.off = 0 then { r with phaseOn := true, phaseTimer := none }
  else { r with phaseOn := startOn, phaseTimer := some 0 }

/-- The prove timer after a change of what is asked for: it starts at a turn-on, and stops when the function is asked for
off (R125). -/
def LampRec.proveAfter (r : LampRec) (wasLit : Bool) : LampRec :=
  if !r.lit then { r with prove := none }
  else if wasLit then r
  else { r with prove := some 0 }

/-- The pattern of the class in force starts again in the phase given (R119, R130). -/
def LampRec.restart (r : LampRec) (cfg : LampCfg) (startOn : Bool) : LampRec :=
  if r.cls = .none then r
  else (r.startPattern (r.patternOf cfg r.cls) startOn).proveAfter r.lit

/-- The class in force is derived again, and a change of it restarts the pattern (R118, R119). -/
def LampRec.deriveClass (r : LampRec) (cfg : LampCfg) : LampRec :=
  let c := r.classNow
  if c = r.cls then r
  else if c = .none then ({ r with cls := .none, phaseOn := false, phaseTimer := none }).proveAfter r.lit
  else (({ r with cls := c }).startPattern (r.patternOf cfg c) (r.startsOn c)).proveAfter r.lit

/-- Motion demand as the covered slots give it (R120). -/
def LampRec.deriveMotion (r : LampRec) (announcing : Bool) (trailInForce : Nat) : LampRec :=
  if announcing then { r with motion := .slot, trailTimer := none }
  else match r.motion with
    | .slot =>
      if trailInForce = 0 then { r with motion := .absent, trailTimer := none }
      else { r with motion := .trail, trailTimer := some 0 }
    | _ => r

/-- The lead clock runs while the lamp carries MOTION or FAULT demand, and is forgotten at a break (R124). -/
def LampRec.deriveLead (r : LampRec) : LampRec :=
  if decide (r.motion ≠ .absent) || r.fault then { r with lead := some (r.lead.getD 0) } else { r with lead := none }

/-- A slot of an actuator in the lamp's mask is announcing (R120). -/
def State.lampAnnouncing (s : State) (n : Lamp) : Bool :=
  Actuator.all.any fun a => (s.lampCfg n).mask.get a.ix && (s.slot a).state.granted

/-- The lamp has fault demand (R121, R129). -/
def State.lampFaultDemand (s : State) (n : Lamp) : Bool :=
  (s.lampCfg n).faultInd && s.awake && (s.someBlocking || s.faults.full || decide (s.device.state = .stopped))

/-- A lamp's record after its demands, lead clock and class are derived again. -/
def State.lampNow (s : State) (n : Lamp) : LampRec :=
  let r := (s.lamp n).deriveMotion (s.lampAnnouncing n) (s.trailInForce n)
  ({ r with fault := s.lampFaultDemand n }).deriveLead.deriveClass (s.lampCfg n)

/-- Every lamp follows the slots, the fault table and the device state. -/
def State.deriveLamps (s : State) : State := { s with lamps := Table.ofFn s.lampNow }

/-- The duration of the lamp's present phase, in microseconds (R117). -/
def State.phaseDuration (s : State) (n : Lamp) : Nat :=
  let r := s.lamp n
  let p := r.patternOf (s.lampCfg n) r.cls
  ms (10 * if r.phaseOn then p.on else p.off)

/-- The phase changes, and its timer restarts at 0 (R117). -/
def LampRec.toggle (r : LampRec) : LampRec :=
  ({ r with phaseOn := !r.phaseOn, phaseTimer := some 0 }).proveAfter r.lit

/-- An ON phase has ended under MANUAL: a counted demand loses a burst, and ends with its last (R123). -/
def LampRec.spendBurst (r : LampRec) : LampRec :=
  match r.manual with
  | some m =>
    if m.bursts = 0 then r
    else if r.bursts ≤ 1 then { r with bursts := 0, manual := none }
    else { r with bursts := r.bursts - 1 }
  | none => r

/-- The phase timer has reached the duration of the phase (R117, R123). -/
def LampRec.phaseEnd (r : LampRec) : LampRec :=
  if r.phaseOn && decide (r.cls = .manual) then r.toggle.spendBurst else r.toggle

/-- The manual demand is removed (R122). -/
def LampRec.clearManual (r : LampRec) : LampRec := { r with manual := none, bursts := 0 }

/-- A manual demand is set; while MANUAL is in force its pattern starts again (R119, R122). -/
def LampRec.setManual (r : LampRec) (cfg : LampCfg) (m : Manual) : LampRec :=
  let r' := { r with manual := some m, bursts := m.bursts }
  if r.cls = .manual then r'.restart cfg m.startOn else r'

/-- CONFIG entry: trails end, and motion and manual demand are dropped (R129). -/
def LampRec.configEntry (r : LampRec) : LampRec :=
  { r with motion := .absent, trailTimer := none, manual := none, bursts := 0 }

/-- DORMANT entry: every demand is dropped, the lamp goes dark, and PROVEN becomes UNKNOWN (R129). -/
def LampRec.dormantEntry (r : LampRec) : LampRec :=
  { cls := .none, motion := .absent, fault := false, manual := none, bursts := 0, phaseOn := false, phaseTimer := none
    trailTimer := none, lead := none, prove := none, proven := if r.proven = .failed then .failed else .unknown }

/-- The lamp leaves FAILED for UNKNOWN (R127). -/
def LampRec.releaseFailed (r : LampRec) : LampRec :=
  if r.proven = .failed then { r with proven := .unknown } else r

/-- The lamp lead part of priming holds for one lamp (R36). -/
def State.leadHolds (s : State) (n : Lamp) : Bool :=
  timerAt (s.lamp n).lead s.leadTime && (!(s.lampCfg n).required || decide ((s.lamp n).proven = .proven))

/-- The lamp lead part of priming holds for a slot (R36): every mapped lamp that covers the actuator has led. -/
def State.leadHoldsFor (s : State) (a : Actuator) : Bool :=
  (List.finRange 4).all fun n =>
    !(s.mapped (lampFunc n) && (s.lampCfg n).mask.get a.ix) || s.leadHolds n

end Sys2Proof.Machine
end

