-- ==== Sys2Proof/Machine/Bank.lean ====
section
/-! DEFINITION. The Output Driver Bank: the requests the blocks make, the power cutoff, what each channel drives, tripping
and release (R131 to R141), and the arbiter's stuck watch on the pump (R41). -/

namespace Sys2Proof.Machine

/-! ### Requests (R25, R34, R132) -/

/-- A valve other than LOWER is asked for: its stroke runs, or its powered stroke is run down (R34). -/
def Slot.valveOn (r : Slot) : Bool :=
  decide (r.state = .running) || (decide (r.state = .settling) && decide (r.stroke = some .powered))

/-- The arbiter asks for PUMP: the pump owner is in PRIMING or RUNNING (R25). -/
def State.pumpAsked (s : State) : Bool :=
  match s.arbiter.pumpOwner with
  | some a => decide ((s.slot a).state = .priming) || decide ((s.slot a).state = .running)
  | none => false

/-- LOWER is driven at the coil duty while the LIFT return stroke runs or is ramped out, and never at a duty of 0 (R79,
R132). -/
def State.lowerRequest (s : State) : Request :=
  let r := s.slot .lift
  if decide (r.stroke = some .ret) && (decide (r.state = .running) || decide (r.state = .settling))
      && decide (s.profile.uOut ≠ 0) then .pwm s.profile.uOut
  else .off

/-- A hatch slot asks for DIVERT on its powered stroke (R34). -/
def Slot.divertOn (r : Slot) : Bool := decide (r.stroke = some .powered) && r.valveOn

def Request.ofBool (b : Bool) : Request := if b then .on else .off

/-- The request a function has from the block that owns it (R132). AUX0 and AUX1 keep what OUTPUT set. -/
def State.wanted (s : State) (f : Func) : Request :=
  match f with
  | .pump => .ofBool s.pumpAsked
  | .lower => s.lowerRequest
  | .tiltv => .ofBool (s.slot .tilt).valveOn
  | .khatchv => .ofBool (s.slot .khatch).valveOn
  | .ohatchv => .ofBool (s.slot .ohatch).valveOn
  | .divert => .ofBool ((s.slot .khatch).divertOn || (s.slot .ohatch).divertOn)
  | .lamp0 => .ofBool (s.lamp 0).lit
  | .lamp1 => .ofBool (s.lamp 1).lit
  | .lamp2 => .ofBool (s.lamp 2).lit
  | .lamp3 => .ofBool (s.lamp 3).lit
  | .aux0 => s.request .aux0
  | .aux1 => s.request .aux1

def State.deriveRequests (s : State) : State :=
  { s with bank := { s.bank with requests := Table.ofFn fun i => s.wanted (Func.ofIx i) } }

/-! ### Channels (R133, R135, R136) -/

/-- The power cutoff is in force (R136). -/
def State.cutoff (s : State) : Bool := decide (s.device.state ≠ .ready) || s.asserted .estop

/-- What a channel that is not TRIPPED drives (R133, R134). -/
def State.channelWants (s : State) (c : Chan) : Request :=
  match s.tables.outputMap.get c with
  | none => .off
  | some f =>
    if s.carrier f ≠ some c then .off
    else if f.isPower && s.cutoff then .off
    else match s.request f with
      | .off => .off
      | .on => if f = .lower then .off else .on
      | .pwm d => if f = .lower && decide (c.val ≤ 3) then .pwm d else .off

/-- A channel takes what it is to drive: a change from OFF is a turn-on and starts the prove timer (R137), PWM starts its
first period at once, and a new duty waits for the next period (R135). A TRIPPED channel does not respond (R138). -/
def ChanRec.take (r : ChanRec) (want : Request) : ChanRec :=
  match r.drive, want with
  | .tripped, _ => r
  | _, .off => ⟨.off, 0, 0, none, none, false⟩
  | .on, .on => r
  | .off, .on => ⟨.on, 0, 0, some 0, none, false⟩
  | .pwm, .on => ⟨.on, 0, 0, r.prove, none, false⟩
  | .pwm, .pwm d => { r with pending := d }
  | .off, .pwm d => ⟨.pwm, d, d, some 0, some 0, false⟩
  | .on, .pwm d => ⟨.pwm, d, d, r.prove, some 0, false⟩

def State.deriveChannels (s : State) : State :=
  { s with bank := { s.bank with channels := Table.ofFn fun c => (s.chan c).take (s.channelWants c) } }

/-- The pin of a channel is driven at this moment: in PWM for duty × 5 µs from the start of the period, and without a break
at a duty of 1000, also in the moment between a period's end and the next one's start (R131, R135). -/
def ChanRec.driven (r : ChanRec) : Bool :=
  match r.drive with
  | .on => true
  | .pwm => match r.period with
    | some t => decide (t < r.duty * 5) || decide (1000 ≤ r.duty)
    | none => false
  | .off | .tripped => false

/-- The load current the bank measures when the load would draw `current`: 0 on a pin that is not driven (R131). -/
def ChanRec.loadCurrent (r : ChanRec) (current : Nat) : Nat := if r.driven then current else 0

/-- The channel trips (R138). -/
def ChanRec.trip : ChanRec := ⟨.tripped, 0, 0, none, none, false⟩

/-- A TRIPPED channel is released; it then takes its function's request (R139). -/
def ChanRec.release (r : ChanRec) : ChanRec :=
  if r.drive = .tripped then ⟨.off, 0, 0, none, none, false⟩ else r

/-- A new PWM period begins: the pending duty is applied, and a period that begins at or after the 50 ms of the prove
timer is the one the open-load test reads (R135, R137). -/
def ChanRec.periodStart (r : ChanRec) : ChanRec :=
  { r with duty := r.pending, period := some 0, armed := r.armed || timerAt r.prove (ms 50) }

/-- The channel carries a lamp function, whose turn-ons the Lamp Controller proves (R137). -/
def State.carriesLamp (s : State) (c : Chan) : Bool :=
  match s.tables.outputMap.get c with
  | some f => f.lamp?.isSome
  | none => false

/-! ### Stuck watch (R41) -/

/-- The stuck watch runs while PUMPRUN is asserted and PUMP is not asked for, holds at 500 ms until PUMPRUN is
de-asserted, and is otherwise at 0. It does not run in STARTUP and DORMANT (log 22). -/
def State.stuckNow (s : State) : Option Nat :=
  if !(s.awake && s.asserted .pumprun) then none
  else if timerAt s.stuck.timer (ms 500) then s.stuck.timer
  else if s.pumpAsked then none
  else some (s.stuck.timer.getD 0)

def State.deriveStuck (s : State) : State := { s with stuck := { s.stuck with timer := s.stuckNow } }

end Sys2Proof.Machine
end

