-- ==== Sys2Proof/Machine/Derive.lean ====
section
/-! DEFINITION. What the blocks derive continuously from the state: hatch positions, conditions, lamps, readiness, requests,
channels and the stuck watch. Each change of a position, a condition or a readiness is handed on as one arrival. -/

namespace Sys2Proof.Machine

/-- What a change of a hatch's position hands on: the change, and at a move away from SHUT the movement rule (R49, R148). -/
def State.hatchChange (s : State) (h : Hatch) : List Arrival :=
  if s.hatchPos h = .shut then [.hatchMoved h, .movement] else [.hatchMoved h]

/-- Both hatch positions are derived again; each change is handed on (R49). -/
def State.deriveHatches (s : State) : State :=
  ({ s with permit := { s.permit with
      hatch := ⟨[s.hatchNow .kerbside, s.hatchNow .offside], rfl⟩ } }).pushAll
    ((Hatch.all.filter fun h => decide (s.hatchNow h ≠ s.hatchPos h)).flatMap s.hatchChange)

/-- The conditions that would change, with their new values, in ascending number. -/
def State.condChanges (s : State) : List Arrival :=
  (Cond.all.filter fun c => s.condsNow.has c != s.cond c).map fun c => .condition c (s.condsNow.has c)

/-- The eighteen conditions are derived again; each change is one arrival (R53). -/
def State.deriveConds (s : State) : State :=
  ({ s with permit := { s.permit with conds := s.condsNow } }).pushAll s.condChanges

/-- The readiness of the eight strokes as it is derived now; DORMANT derives none (R57). -/
def State.readyNow (s : State) : Table Bool 8 :=
  if s.device.state = .dormant then s.permit.ready
  else ⟨allStrokes.map fun (a, k) => (s.notReadyCause a k).isNone, rfl⟩

/-- The strokes whose readiness would change, each with its cause (R60). -/
def State.readyChanges (s : State) : List Arrival :=
  (allStrokes.filter fun (a, k) => s.readyNow.get (strokeIx a k) != s.ready a k).map fun (a, k) =>
    .readiness a k (s.notReadyCause a k)

/-- The readiness of every stroke is derived again; each change is one arrival (R60). -/
def State.deriveReady (s : State) : State :=
  ({ s with permit := { s.permit with ready := s.readyNow } }).pushAll s.readyChanges

/-- Everything that follows continuously from the records is brought up to date. -/
def State.derive (s : State) : State :=
  s.deriveHatches.deriveConds.deriveLamps.deriveReady.deriveRequests.deriveChannels.deriveStuck

end Sys2Proof.Machine
end

