-- ==== Sys2Proof/Machine/Faults.lean ====
section
/-! DEFINITION. The Fault Table: occurrences, ends, acknowledgement, removal and eviction (R160 to R168). -/

namespace Sys2Proof.Machine

/-- The entry is the one of this kind and subject; the list holds at most one (R160). -/
def FaultEntry.isFor (e : FaultEntry) (k : FaultKind) (subject : Subject) : Bool :=
  decide (e.kind = k) && decide (e.subject = subject)

def State.hasEntry (s : State) (k : FaultKind) (subject : Subject) : Bool :=
  s.faults.entries.any fun e => e.isFor k subject

def State.setEntries (s : State) (es : List FaultEntry) : State := { s with faults := { s.faults with entries := es } }

/-- A new entry's first state: ACTIVE for a condition kind, CLEARED for an event kind (R162). -/
def FaultEntry.fresh (k : FaultKind) (subject : Subject) : FaultEntry := ⟨k, subject, k.isCondition, false, 1⟩

/-- A re-occurrence: the count rises to at most 255, acknowledged becomes clear, a condition becomes ACTIVE (R162). -/
def FaultEntry.again (e : FaultEntry) : FaultEntry :=
  { e with count := min 255 (e.count + 1), acked := false, active := e.active || e.kind.isCondition }

/-- The lamp of a removed LAMP_OPEN entry leaves FAILED (R127). -/
def State.releaseLampOf (s : State) (k : FaultKind) (subject : Subject) : State :=
  match k, subject with
  | .lampOpen, .lamp n => s.setLamp n (s.lamp n).releaseFailed
  | _, _ => s

/-- The channel of a removed DRIVER_SHORT entry is released (R139). -/
def State.releaseChanOf (s : State) (k : FaultKind) (subject : Subject) : State :=
  match k, subject with
  | .driverShort, .chan c => s.setChan c (s.chan c).release
  | _, _ => s

/-- The full flag clears: FAILED lamps without a LAMP_OPEN entry and TRIPPED channels without a DRIVER_SHORT entry are
released (R127, R139, R167). -/
def State.clearFull (s : State) : State :=
  if s.faults.full then
    { s with
      faults := { s.faults with full := false }
      lamps := Table.ofFn fun n => if s.hasEntry .lampOpen (.lamp n) then s.lamp n else (s.lamp n).releaseFailed
      bank := { s.bank with
        channels := Table.ofFn fun c => if s.hasEntry .driverShort (.chan c) then s.chan c else (s.chan c).release } }
  else s

/-- An entry leaves the list, with the hand-offs of its removal (R165). Readiness and fault demand are derived after it. -/
def State.removeEntry (s : State) (k : FaultKind) (subject : Subject) : State :=
  (((s.setEntries (s.faults.entries.filter fun e => !e.isFor k subject)).releaseLampOf k subject).releaseChanOf k
    subject).clearFull

/-- The entry a full table gives up: the oldest CLEARED one that is not blocking, otherwise the oldest ACTIVE one that is
not blocking (R166). -/
def State.evictable (s : State) : Option FaultEntry :=
  match s.faults.entries.find? fun e => !e.active && !s.tables.blocking e with
  | some e => some e
  | none => s.faults.entries.find? fun e => e.active && !s.tables.blocking e

/-- A new entry is appended at the end (R162). -/
def State.appendEntry (s : State) (k : FaultKind) (subject : Subject) : State :=
  s.setEntries (s.faults.entries ++ [.fresh k subject])

/-- An occurrence is dropped, and the full flag set (R166, R167). -/
def State.dropOccurrence (s : State) : State := { s with faults := { s.faults with full := true } }

/-- An occurrence posted by a raiser (R162, R166). At an eviction the removal's own releases of FAILED lamps and TRIPPED channels
come before the new entry is appended, so that with the full flag also the lamp or channel that the occurrence is about is
released; readiness, fault demand and the rounds that follow are derived and taken after it. R165 gives these hand-offs no order
(DESIGN CHOICE, log 44). -/
def State.takeOccurrence (s : State) (k : FaultKind) (subject : Subject) : State :=
  if s.hasEntry k subject then
    s.setEntries (s.faults.entries.map fun e => if e.isFor k subject then e.again else e)
  else if s.faults.entries.length < 16 then s.appendEntry k subject
  else match s.evictable with
    | some e => (s.removeEntry e.kind e.subject).appendEntry k subject
    | none => s.dropOccurrence

/-- The end of a condition posted by its raiser (R163). -/
def State.takeConditionEnd (s : State) (k : FaultKind) (subject : Subject) : State :=
  match s.faults.entries.find? fun e => e.isFor k subject with
  | some e =>
    if !e.active then s
    else if e.acked then s.removeEntry k subject
    else s.setEntries (s.faults.entries.map fun e => if e.isFor k subject then { e with active := false } else e)
  | none => s

/-- The named entry is acknowledged, and removed if it is CLEARED (R164). -/
def State.acknowledge (s : State) (k : FaultKind) (subject : Subject) : State :=
  let s1 := s.setEntries (s.faults.entries.map fun e => if e.isFor k subject then { e with acked := true } else e)
  if s.faults.entries.any fun e => e.isFor k subject && !e.active then s1.removeEntry k subject else s1

/-- The entries of a list are removed, in its order. -/
def State.removeEntries (s : State) (es : List FaultEntry) : State := es.foldl (fun s e => s.removeEntry e.kind e.subject) s

/-- Every entry is acknowledged; every CLEARED one is then removed, oldest first, each with its own effects (R164). All the
removals are made before anything that follows from them at other blocks, the changes of readiness and their rounds, is taken;
R164 does not say whether these come between two removals (DESIGN CHOICE, log 43). -/
def State.acknowledgeAll (s : State) : State :=
  (s.setEntries (s.faults.entries.map fun e => { e with acked := true })).removeEntries
    (s.faults.entries.filter fun e => !e.active)

end Sys2Proof.Machine
end

