-- ==== Sys2Proof/Machine/Measure.lean ====
section
/-! DEFINITION. The Measurement Unit: edges, captures, windows, validity and sensor faults (R62 to R78). -/

namespace Sys2Proof.Machine

/-! ### The value of a capture -/

/-- The position a good duty gives (R65). -/
def dutyPosition (duty span : Nat) : Nat :=
  if duty ≤ 100 then 0 else if duty < 900 then (duty - 100) * span / 800 else span

/-- A capture on a duty channel: its position, or none when it is bad (R64, R65). -/
def dutyCapture (span period : Nat) (high : Option Nat) : Option Nat :=
  match high with
  | some h =>
    let duty := 1000 * h / period
    if 1000 ≤ period ∧ period ≤ 10000 ∧ 50 ≤ duty ∧ duty ≤ 950 then some (dutyPosition duty span) else none
  | none => none

/-- A capture on the pressure channel: its pressure, or none when it is bad (R66). A frequency below 1000 Hz gives a
negative result, which becomes 0. -/
def pressureCapture (period : Nat) : Option Nat :=
  if 190 ≤ period ∧ period ≤ 1100 then some (min 400 ((1000000 / period - 1000) / 10)) else none

/-- The value of a capture on a channel, or none when it is bad (R64, R65, R66). -/
def State.captureValue (s : State) (m : Sensor) (period : Nat) (high : Option Nat) : Option Nat :=
  match m with
  | .height => dutyCapture s.tables.scaling.hmax period high
  | .tilt => dutyCapture s.tables.scaling.tspan period high
  | .pressure => pressureCapture period

/-- The period and the high time of an open period closed at `now`, as 16-bit counter differences (R63). The lost rule ends a
longer period before it closes, but not in STARTUP, where the lost timer does not run (R71, R76): the difference of a period
of 65,536 µs or more is then its remainder (DESIGN CHOICE, log 35). -/
def OpenPeriod.times (p : OpenPeriod) (now : BitVec 16) : Nat × Option Nat :=
  ((now - p.rise).toNat, p.fall.map fun f => (f - p.rise).toNat)

/-! ### Good and bad captures -/

/-- The last four values of a window with a new one appended (R67). -/
def pushWindow (limit : Nat) (w : List Nat) (v : Nat) : List Nat := (w ++ [v]).drop (w.length + 1 - limit)

/-- A channel with four values and fewer than three bad captures is VALID (R69). -/
def Capture.validNow (r : Capture) : Bool := decide (r.window.length = 4) && decide (r.bad < 3)

/-- The channel's record after a good capture (R67, R69). -/
def Capture.good (r : Capture) (v : Nat) : Capture :=
  let w := pushWindow 4 r.window v
  let r1 := { r with bad := 0, window := w, reported := w.sum / w.length }
  { r1 with valid := r1.validNow }

/-- The ends a recovery or the settling of the startup interval posts, one for each flag set (R73, R77). -/
def Capture.ends (r : Capture) (m : Sensor) : List Arrival :=
  (if r.rangeFlag then [.conditionEnd .sensorRange (.sensor m)] else [])
    ++ (if r.lostFlag then [.conditionEnd .sensorLost (.sensor m)] else [])

/-- The channel may post to the Fault Table: not during STARTUP (R76). -/
def State.mayPost (s : State) : Bool := decide (s.device.state ≠ .startup)

/-- A good capture (R67, R69, R73). -/
def State.goodCapture (s : State) (m : Sensor) (v : Nat) : State :=
  let r := s.capture m
  let r1 := r.good v
  let recovers := !r.valid && r1.valid && s.mayPost
  (s.setCapture m (if recovers then { r1 with rangeFlag := false, lostFlag := false } else r1)).pushAll
    ((if r1.reported = r.reported then [] else [.reported m]) ++ if recovers then r.ends m else [])

/-- The third-bad rule (R70); during STARTUP its posting is withheld and the flag stays clear (R76). -/
def State.thirdBad (s : State) (m : Sensor) (r : Capture) : State :=
  let posts := !r.rangeFlag && s.mayPost
  (s.setCapture m { r with window := [], valid := false, rangeFlag := r.rangeFlag || posts }).pushAll
    (if posts then [.occurrence .sensorRange (.sensor m)] else [])

/-- The channel's record after a bad capture, before the third-bad rule (R68). -/
def Capture.bump (r : Capture) : Capture :=
  if r.valid then { r with bad := r.bad + 1 } else { r with bad := min 3 (r.bad + 1), window := [] }

/-- A bad capture (R68). -/
def State.badCapture (s : State) (m : Sensor) : State :=
  let r := (s.capture m).bump
  if 3 ≤ r.bad then s.thirdBad m r else s.setCapture m r

/-- A closing rising edge makes a capture (R63). -/
def State.closePeriod (s : State) (m : Sensor) : State :=
  match (s.capture m).openPeriod with
  | some p =>
    match s.captureValue m (p.times s.counter).1 (p.times s.counter).2 with
    | some v => s.goodCapture m v
    | none => s.badCapture m
  | none => s

/-- A rising edge: it closes the open period, opens the next, and after STARTUP restarts the lost timer (R63, R71). -/
def State.risingEdge (s : State) (m : Sensor) : State :=
  let s1 := s.closePeriod m
  s1.setCapture m { s1.capture m with
    openPeriod := some ⟨s.counter, none⟩
    lost := if s.device.state = .startup then (s.capture m).lost else some 0 }

/-- A falling edge: the first one of the open period is recorded (R63). -/
def State.fallingEdge (s : State) (m : Sensor) : State :=
  let r := s.capture m
  match r.openPeriod with
  | some ⟨rise, none⟩ => s.setCapture m { r with openPeriod := some ⟨rise, some s.counter⟩ }
  | _ => s

/-- A lost expiry (R72). -/
def State.loseSensor (s : State) (m : Sensor) : State :=
  let r := s.capture m
  (s.setCapture m { r with
    openPeriod := none, window := [], bad := 0, valid := false, lost := none, lostFlag := true }).pushAll
    (if r.lostFlag then [] else [.occurrence .sensorLost (.sensor m)])

/-- A write to the channel's span (R75). -/
def Capture.spanWritten (r : Capture) (span : Nat) : Capture :=
  { r with window := [], bad := 0, reported := min r.reported span, valid := false }

/-- The channel settles its faults at the end of the startup interval (R77), and its lost timer starts. -/
def State.settleCapture (s : State) (m : Sensor) : State :=
  let r := s.capture m
  if r.valid then
    (s.setCapture m { r with rangeFlag := false, lostFlag := false, lost := some 0 }).pushAll (r.ends m)
  else if decide (r.bad = 3) && !r.rangeFlag then
    (s.setCapture m { r with rangeFlag := true, lost := some 0 }).push (.occurrence .sensorRange (.sensor m))
  else s.setCapture m { r with lost := some 0 }

/-- DORMANT entry (R78). -/
def Capture.dormantEntry (r : Capture) : Capture :=
  { r with openPeriod := none, window := [], bad := 0, valid := false, lost := none }

end Sys2Proof.Machine
end

