-- ==== Sys2Proof/Machine/Chain.lean ====
section
/-! DEFINITION. The chain of steps of a run: its current step, its end, following a link, and the report of a motion (R105,
R108). -/

namespace Sys2Proof.Machine

/-- The record of a context's current step in the live step table. -/
def State.stepRecord (s : State) (c : Ctx) : StepRecord :=
  match (s.context c).step with
  | some i => s.tables.steps.get i
  | none => .empty

/-- The actuator of a context's current step, when that is a MOTION step. -/
def State.stepActuator (s : State) (c : Ctx) : Option Actuator :=
  match s.stepRecord c with
  | .motion m => some m.actuator
  | .wait _ | .empty => none

/-- The time limit of a context's current step, in microseconds (R96). -/
def State.stepLimit (s : State) (c : Ctx) : Nat :=
  match s.stepRecord c with
  | .motion m => ms (100 * m.limit)
  | .wait w => ms (100 * w.limit)
  | .empty => 0

/-- A run ends: the context enters IDLE with its result, keeping sequence, current step and step count (R108). -/
def State.endRun (s : State) (c : Ctx) (result : RunResult) : State :=
  s.setContext c { s.context c with
    state := .idle, result := result, owner := none, held := false, phase := .none
    stepTimer := none, holdTimer := none, pauseTimer := none }

/-- A step succeeds or fails: its timer stops, and the run follows the link or ends (R108). -/
def State.stepDone (s : State) (c : Ctx) (ok : Bool) : State :=
  let s1 := s.setContext c { s.context c with phase := .none, stepTimer := none }
  let follow := match s.stepRecord c with
    | .motion m => if ok then m.next else m.onFail
    | .wait w => if ok then w.next else w.onFail
    | .empty => none
  match follow with
  | some i => s1.push (.stepStart c i)
  | none => s1.endRun c (if ok then .done else .stepFailed)

/-- A context judges the reported outcome of its motion in hand (R105). -/
def State.judgeReport (s : State) (c : Ctx) (a : Actuator) (o : Ending) : State :=
  let r := s.context c
  if decide (r.state = .active) && decide (r.phase = .inMotion) && decide (s.stepActuator c = some a) then
    if o = .stopped then s.endRun c .stopped else s.stepDone c (decide (o = .reached))
  else s

end Sys2Proof.Machine
end

