-- ==== Sys2Proof/Machine/Slots.lean ====
section
/-! DEFINITION. The motion slots: how a motion is taken, primes, runs, pauses, settles and ends (R1 to R23), with the lowering
duty at RUNNING entry (R83, R88) and the end tests (R84, R91, R92). -/

namespace Sys2Proof.Machine

/-! ### End tests -/

/-- The channel whose value a stroke's end test reads; a hatch test reads the hatch's position (R91, R92). -/
def endSensor : Actuator → Option Sensor
  | .lift => some .height
  | .tilt => some .tilt
  | .khatch | .ohatch => none

/-- The measurement the stroke's end test needs is valid (R3, R93). -/
def State.endTestValid (s : State) (a : Actuator) : Bool :=
  match endSensor a with
  | some m => (s.capture m).valid
  | none => true

/-- The hatch of the actuator stands at `p`. -/
def State.hatchAt (s : State) (a : Actuator) (p : HatchPos) : Bool :=
  match a.hatch? with
  | some h => decide (s.hatchPos h = p)
  | none => false

/-- The stroke's travel end test passes against a target (R84, R91, R92). -/
def State.endTest (s : State) (a : Actuator) (k : Stroke) (target : Nat) : Bool :=
  let sc := s.tables.scaling
  match a, k with
  | .lift, .powered => decide (target ≤ (s.capture .height).reported + sc.sbH)
  | .lift, .ret => decide ((s.capture .height).reported ≤ target + sc.sbH) || (decide (target = 0) && s.cond .atGround)
  | .tilt, .powered => decide (target ≤ (s.capture .tilt).reported + sc.sbT)
  | .tilt, .ret => decide ((s.capture .tilt).reported ≤ target + sc.sbT)
  | .khatch, .powered | .ohatch, .powered => s.hatchAt a .opened
  | .khatch, .ret | .ohatch, .ret => s.hatchAt a .shut

/-! ### Coil duty -/

/-- The battery average (R151). -/
def State.batteryAverage (s : State) : Nat :=
  if s.supply.window.isEmpty then 0 else s.supply.window.sum / s.supply.window.length

/-- Battery compensation of the lowering duty (R88). At an average of 0 the quotient is a free value (log 20). -/
def State.coilDuty (s : State) (u : Nat) : Nat :=
  min 1000 (if s.batteryAverage = 0 then Config.quotientAtZeroBattery u else u * 24000 / s.batteryAverage)

/-- The Profile Generator and the overload watch stop with the LIFT slot's motion (R82, R94). -/
def State.stopProfile (s : State) (a : Actuator) : State :=
  if a = .lift then { s with profile := ⟨0, none, none⟩ } else s

/-- The overload timer stops (R94). -/
def State.stopOverload (s : State) (a : Actuator) : State :=
  if a = .lift then { s with profile := { s.profile with overload := none } } else s

/-- The LIFT slot enters RUNNING on its return stroke: u is u_min, the coil duty follows, the update timer starts (R83). -/
def State.startProfile (s : State) : State :=
  let umin := s.tables.profile.umin
  ({ s with profile := ⟨s.coilDuty umin, some 0, none⟩ }).setSlot .lift { s.slot .lift with u := umin }

/-- The overload test of the LIFT powered stroke in RUNNING (R94). -/
def State.testOverload (s : State) : State :=
  let r := s.slot .lift
  if decide (r.state = .running) && decide (r.stroke = some .powered) then
    if s.tables.profile.pover ≤ (s.capture .pressure).reported then
      { s with profile := { s.profile with overload := some (s.profile.overload.getD 0) } }
    else { s with profile := { s.profile with overload := none } }
  else s

/-! ### Completing an end (R21) -/

/-- The links a slot watches after its end: those watched, and its holders with their timers continuing (R19, R21). -/
def Slot.watchers (r : Slot) : LinkTimers := r.holders.join r.watch

/-- The outcome the slot records: the one of SETTLING entry for an end that settled, else the end's own (R19, R21). -/
def Slot.finalOutcome (r : Slot) (o : Ending) : Ending := if r.state = .settling then r.outcome else o

/-- The class that decides the next state (R21). -/
def Slot.finalClass (r : Slot) (o : Ending) : EndClass :=
  if r.state = .settling then r.endClass.getD .normal else o.cls

/-- The slot becomes BLOCKED: a blocking end with crew still pressing (R21). -/
def Slot.endsBlocked (r : Slot) (o : Ending) : Bool :=
  decide (o ≠ .stopped) && decide (r.finalClass o = .blocking) && !r.watchers.isEmpty

/-- The slot record after its end completes (R21, parts 1 and 2). The run timer keeps its value. -/
def Slot.ended (r : Slot) (o : Ending) : Slot :=
  { resetSlot with
    state := if r.endsBlocked o then .blocked else .idle
    watch := if r.endsBlocked o then r.watchers else LinkTimers.none
    runTimer := r.runTimer
    outcome := r.finalOutcome o }

/-- The context to be told the outcome (R21, part 4). -/
def Slot.reportCtx (r : Slot) : Option Ctx :=
  match r.owner with
  | some (.ctx c) => some c
  | _ => r.reportTo

/-- The arbiter clears the grant record and the pump ownership of a slot, and takes a round when it held a grant (R32). -/
def State.releaseGrant (s : State) (a : Actuator) : State :=
  if s.grant a.circuit = some a then
    (({ s with arbiter := { s.arbiter with
        pumpOwner := if s.arbiter.pumpOwner = some a then none else s.arbiter.pumpOwner } }).setGrant a.circuit none).push
      .round
  else s

/-- The slot leaves the call list without a grant, which causes a round (R26, R28). -/
def State.leaveCallList (s : State) (a : Actuator) : State :=
  if a ∈ s.arbiter.callList then
    ({ s with arbiter := { s.arbiter with callList := s.arbiter.callList.erase a } }).push .round
  else s

/-- The record, the timers and the supply of a slot whose end completes (R21, parts 1 to 3); a slot that enters IDLE is handed on
as free (R104). -/
def State.completeRecord (s : State) (a : Actuator) (o : Ending) : State :=
  let r := s.slot a
  ((((((s.setSlot a (r.ended o)).stopProfile a).setPrime a .stopped).leaveCallList a).releaseGrant a)).pushAll
    (if r.endsBlocked o then [] else [.slotFree a])

/-- An end completes (R21). `o` is the end's outcome; a slot in SETTLING keeps the one written at its entry, except that
STOPPED always takes it to IDLE (R23). The context to be told takes its report with the slot's new state (R105). -/
def State.complete (s : State) (a : Actuator) (o : Ending) : State :=
  let r := s.slot a
  match r.reportCtx with
  | some c => (s.completeRecord a o).judgeReport c a (r.finalOutcome o)
  | none => s.completeRecord a o

/-! ### How a motion ends (R16 to R20) -/

/-- The slot record on entry to SETTLING (R19, R20). -/
def Slot.settle (r : Slot) (o : Ending) : Slot :=
  { r with
    state := .settling
    outcome := o
    endClass := some o.cls
    watch := r.watchers
    holders := LinkTimers.none
    owner := none
    reportTo := r.reportCtx
    runDown := if r.stroke = some .powered then some 0 else none }

/-- The stroke has a run-down: LIFT return, or any powered stroke (R18). -/
def hasRunDown (a : Actuator) (k : Option Stroke) : Bool := decide (a = .lift) || decide (k = some .powered)

/-- A further end in SETTLING makes the end class BLOCKING if its own class is (R18, R19). -/
def Slot.raiseClass (r : Slot) (o : Ending) : Slot :=
  if o.cls = .blocking then { r with endClass := some .blocking } else r

/-- A motion ends with an outcome, according to the slot's state (R8, R11, R18, R19, R21). -/
def State.endMotion (s : State) (a : Actuator) (o : Ending) : State :=
  let r := s.slot a
  match r.state with
  | .idle | .blocked => s
  | .waiting | .priming | .holding => s.complete a o
  | .running =>
    if o.isSettling && hasRunDown a r.stroke then (s.setSlot a (r.settle o)).stopOverload a else s.complete a o
  | .settling =>
    let s1 := s.setSlot a (r.raiseClass o)
    if o.isSettling then s1 else s1.complete a o

/-- An end that reaches only a granted slot (R16, R17). -/
def State.endGranted (s : State) (a : Actuator) (o : Ending) : State :=
  if (s.slot a).state.granted then s.endMotion a o else s

/-! ### From grant to running (R12, R14, R15, R35) -/

/-- The slot enters PRIMING: for a powered stroke its prime timer starts, and priming is tested at once (R35, R42). -/
def State.enterPriming (s : State) (a : Actuator) : State :=
  let r := s.slot a
  ((s.setSlot a { r with state := .priming, holdTimer := none }).setPrime a
    (if r.stroke = some .powered then .running 0 else .stopped)).push .primeTest

/-- The slot enters HOLDING: its functions go off, grant and pump stay, the hold timer starts (R14). -/
def State.enterHolding (s : State) (a : Actuator) : State :=
  ((s.setSlot a { s.slot a with state := .holding, holdTimer := some 0, u := 0 }).stopProfile a).setPrime a .stopped

/-- The end test of a slot in RUNNING, other than the LIFT return stroke's, whose test is its update's (R84, R91, R92). -/
def State.runEndTest (s : State) (a : Actuator) : State :=
  let r := s.slot a
  match r.state, r.stroke with
  | .running, some k =>
    if decide (a = .lift) && decide (k = .ret) then s
    else if s.endTest a k (r.target.getD 0) then s.endMotion a .reached else s
  | _, _ => s

/-- The slot enters RUNNING (R12): the LIFT return stroke opens its valve at u_min (R83); every other stroke makes its end
test (R91, R92), and LIFT powered its overload test (R94). -/
def State.enterRunning (s : State) (a : Actuator) : State :=
  let s1 := (s.setSlot a { s.slot a with state := .running }).setPrime a .stopped
  if decide (a = .lift) && decide ((s.slot a).stroke = some .ret) then s1.startProfile
  else
    let s2 := s1.runEndTest a
    if a = .lift then s2.testOverload else s2

/-- The completion test of priming for one slot (R36, R37). -/
def State.primeTestOf (s : State) (a : Actuator) : State :=
  let r := s.slot a
  if decide (r.state = .priming) && s.leadHoldsFor a && (decide (r.stroke ≠ some .powered) || s.asserted .pumprun) then
    s.enterRunning a
  else s

/-- The arbiter tests the completion of priming of every slot (R35). -/
def State.primeTests (s : State) : State := Actuator.all.foldl State.primeTestOf s

/-! ### Taking a motion (R3, R4, R10) -/

/-- Who starts a motion: a holder, or an owner. -/
inductive Starter where
  | holder (l : Link)
  | owner (o : Owner)
  deriving DecidableEq, Repr

/-- The largest target of an actuator: the travel limit of the SCALING table; a hatch has none (R4). -/
def State.targetLimit (s : State) : Actuator → Option Nat
  | .lift => some s.tables.scaling.hbed
  | .tilt => some s.tables.scaling.tclose
  | .khatch | .ohatch => none

/-- The target a request records (R4). -/
def State.takenTarget (s : State) (a : Actuator) (k : Stroke) (given : Option Nat) : Option Nat :=
  match s.targetLimit a with
  | none => none
  | some limit =>
    match given, k with
    | some t, _ => some (min t limit)
    | none, .powered => some limit
    | none, .ret => some 0

/-- The target given lies above the limit and is clamped (R4). -/
def State.targetClamped (s : State) (a : Actuator) (given : Option Nat) : Bool :=
  match s.targetLimit a, given with
  | some limit, some t => decide (limit < t)
  | _, _ => false

/-- Check 3 of R3, less the codes: the policy lists the mode, and no target is given for a hatch. -/
def State.motionParamsOk (s : State) (a : Actuator) (k : Stroke) (given : Option Nat) : Starter → Bool
  | .holder _ => (s.policy a k).hold && given.isNone
  | .owner _ => (s.policy a k).run && (given.isNone || a.hatch?.isNone)

/-- The slot enters WAITING with a new motion and joins the end of the call list, which causes a round (R5, R10, R26). -/
def State.enterWaiting (s : State) (a : Actuator) (k : Stroke) (target : Option Nat) (gate : Option Gate) (w : Starter) :
    State :=
  let r := s.slot a
  (({ s with arbiter := { s.arbiter with callList := s.arbiter.callList ++ [a] } }).setSlot a
    { r with
      state := .waiting
      stroke := some k
      target := target
      holders := match w with
        | .holder l => LinkTimers.none.set l (some 0)
        | .owner _ => LinkTimers.none
      owner := match w with
        | .holder _ => none
        | .owner o => some o
      runTimer := 0
      need := s.requirement a k gate }).push .round

/-- Checks 4 and 5 of R3, and the motion if they pass, at an IDLE slot (R3, R4). -/
def State.takeMotion (s : State) (a : Actuator) (k : Stroke) (given : Option Nat) (gate : Option Gate) (w : Starter) :
    Result × State :=
  if !s.strokeMapped a k then (.notConfigured, s)
  else if !(s.ready a k && s.cond .parked && s.cond .standstill && s.cond .estopClear) then (.blocked, s)
  else
    let target := s.takenTarget a k given
    if s.endTestValid a && s.endTest a k (target.getD 0) then (.atLimit, s)
    else (if s.targetClamped a given then .clamped else .accepted, s.enterWaiting a k target gate w)

/-- A post of a sequence context (R3 from check 2, R10). -/
def State.postMotion (s : State) (c : Ctx) (m : MotionStep) : Result × State :=
  let w : Starter := .owner (.ctx c)
  if s.device.state ≠ .ready then (.refusedState, s)
  else if !s.motionParamsOk m.actuator m.stroke m.target w then (.badParam, s)
  else if (s.slot m.actuator).state ≠ .idle then (.busy, s)
  else s.takeMotion m.actuator m.stroke m.target m.gate w

/-! ### Departures (R8, R9, R22) -/

/-- A holder leaves with a cause; the last one's departure ends the motion (R8). -/
def State.holderLeaves (s : State) (a : Actuator) (l : Link) (cause : Ending) : State :=
  let r := s.slot a
  let s1 := s.setSlot a { r with holders := r.holders.set l none }
  if LinkTimers.isEmpty (r.holders.set l none) then s1.endMotion a cause else s1

/-- A link leaves the watch set; a BLOCKED slot with no link left enters IDLE (R9, R19, R22). -/
def State.watcherLeaves (s : State) (a : Actuator) (l : Link) : State :=
  let r := s.slot a
  let w := r.watch.set l none
  if decide (r.state = .blocked) && LinkTimers.isEmpty w then
    (s.setSlot a { r with watch := w, state := .idle }).push (.slotFree a)
  else s.setSlot a { r with watch := w }

/-- A link is added to the watch set, or its watch timer restarts (R5, R22). -/
def State.watchLink (s : State) (a : Actuator) (l : Link) : State :=
  let r := s.slot a
  s.setSlot a { r with watch := r.watch.set l (some 0) }

/-- A link joins the holders, or its refresh timer restarts (R5, R7). -/
def State.joinHolders (s : State) (a : Actuator) (l : Link) : State :=
  let r := s.slot a
  s.setSlot a { r with holders := r.holders.set l (some 0) }

/-- A conflict: the sending link is watched from 0 with the former holders, and the motion ends at once (R6). -/
def State.takeConflict (s : State) (a : Actuator) (l : Link) : State := (s.joinHolders a l).complete a .conflict

/-- A context's cancel or lapse arrival at the slot of an actuator: it ends a motion the context owns (R11). -/
def State.contextEnds (s : State) (c : Ctx) (a : Actuator) (o : Ending) : State :=
  if (s.slot a).owner = some (.ctx c) then s.endMotion a o else s

/-- STOPPED entry at one slot (R23). -/
def State.stopSlot (s : State) (a : Actuator) : State :=
  let r := s.slot a
  match r.state with
  | .idle => s
  | .blocked => (s.setSlot a { r with state := .idle, watch := LinkTimers.none }).push (.slotFree a)
  | .waiting | .priming | .running | .holding | .settling => s.complete a .stopped

/-! ### The 10 ms update of the lowering stroke (R82 to R89) -/

/-- Step 2: the ceiling, for a distance to go above the stop band (R85). -/
def ProfileCfg.ceiling (p : ProfileCfg) (d : Nat) : Nat :=
  if p.zone < d then p.umax else p.umin + (p.umax - p.umin) * d / p.zone

/-- The load factor (R86). -/
def ProfileCfg.loadFactor (p : ProfileCfg) (pressure : Nat) : Nat := max 500 (1000 - p.load * (pressure / 10))

/-- Step 3: the loaded ceiling (R86). -/
def ProfileCfg.loadedCeiling (p : ProfileCfg) (d pressure : Nat) : Nat :=
  max p.umin (p.ceiling d * p.loadFactor pressure / 1000)

/-- Step 4: u moves toward the loaded ceiling at a limited rate (R87). -/
def ProfileCfg.slew (p : ProfileCfg) (u c : Nat) : Nat := if u ≤ c then min c (u + p.rup) else max c (u - p.rdown)

/-- The duty u after steps 2 to 4 of an update. -/
def State.nextDuty (s : State) (u target : Nat) : Nat :=
  let p := s.tables.profile
  p.slew u (p.loadedCeiling ((s.capture .height).reported - target) (s.capture .pressure).reported)

/-- The LIFT slot's u and the coil duty that follows from it (R88). -/
def State.setDuty (s : State) (u : Nat) : State :=
  ({ s with profile := { s.profile with uOut := s.coilDuty u } }).setSlot .lift { s.slot .lift with u := u }

/-- An update in RUNNING (R84 to R88). -/
def State.updateRunning (s : State) : State :=
  let r := s.slot .lift
  let target := r.target.getD 0
  if s.endTest .lift .ret target then s.endMotion .lift .reached else s.setDuty (s.nextDuty r.u target)

/-- An update in SETTLING: the ramp-out (R89). -/
def State.updateSettling (s : State) : State :=
  let u := (s.slot .lift).u
  let p := s.tables.profile
  if u < p.umin + p.rdown then s.complete .lift .reached else s.setDuty (u - p.rdown)

end Sys2Proof.Machine
end

