-- ==== Sys2Proof/Machine/Rounds.lean ====
section
/-! DEFINITION. The Supply Arbiter's allocation rounds: which waiting slots are permitted, the candidate of each circuit, and
the grants of a round (R27 to R31). -/

namespace Sys2Proof.Machine

/-- The slot's motion is a powered stroke. -/
def State.isPowered (s : State) (a : Actuator) : Bool := decide ((s.slot a).stroke = some .powered)

/-- The priority of the slot's stroke in the MOTION_POLICY table (R29). -/
def State.priorityOf (s : State) (a : Actuator) : Nat :=
  match (s.slot a).stroke with
  | some k => (s.policy a k).priority
  | none => 0

/-- The slot is permitted (R27). -/
def State.permitted (s : State) (a : Actuator) : Bool :=
  match (s.slot a).stroke with
  | some k =>
    s.ready a k && CondSet.within (s.slot a).need s.permit.conds && (decide (k ≠ .powered) || s.cond .supplyNormal)
  | none => false

/-- The member of highest priority, the one nearer the front between equals (R29). -/
def bestOf (priority : Actuator → Nat) : List Actuator → Option Actuator
  | [] => none
  | a :: rest =>
    match bestOf priority rest with
    | some b => if priority a < priority b then some b else some a
    | none => some a

/-- The candidate of a circuit: of its permitted slots on the call list, the best; a granted circuit has none (R29). -/
def State.candidate (s : State) (c : Circuit) : Option Actuator :=
  if (s.grant c).isSome then none
  else bestOf s.priorityOf (s.arbiter.callList.filter fun a => decide (a.circuit = c) && s.permitted a)

/-- The grants of a round, given the candidates of the two circuits (R30). -/
def State.roundGrants (s : State) : List Actuator :=
  match s.candidate .liftCircuit, s.candidate .hatchCircuit with
  | none, none => []
  | some a, none | none, some a => if s.isPowered a && s.arbiter.pumpOwner.isSome then [] else [a]
  | some a, some b =>
    if s.arbiter.pumpOwner.isSome then [a, b].filter fun x => !s.isPowered x
    else if s.isPowered a && s.isPowered b then
      (bestOf s.priorityOf (s.arbiter.callList.filter fun x => decide (x = a) || decide (x = b))).toList
    else [a, b]

/-- A grant to a slot (R31). -/
def State.grantSlot (s : State) (a : Actuator) : State :=
  (({ s with arbiter := { s.arbiter with
      callList := s.arbiter.callList.erase a
      pumpOwner := if s.isPowered a then some a else s.arbiter.pumpOwner } }).setGrant a.circuit (some a)).enterPriming a

/-- An allocation round (R28); outside READY it makes no grant (R33). -/
def State.takeRound (s : State) : State :=
  if s.device.state = .ready then s.roundGrants.foldl State.grantSlot s else s

end Sys2Proof.Machine
end

