-- ==== Sys2Proof/Machine/Sequences.lean ====
section
/-! DEFINITION. The Sequence Unit: starting, stepping, pausing and cancelling the runs of the two contexts (R98 to R113). -/

namespace Sys2Proof.Machine

/-- A context takes the slot's answer to its post (R103). -/
def State.takeAnswer (s : State) (c : Ctx) : Result → State
  | .accepted | .clamped => s.setContext c { s.context c with phase := .inMotion }
  | .atLimit => s.stepDone c true
  | .busy => s.setContext c { s.context c with phase := .slotBusy }
  | .refusedState => s.endRun c .stopped
  | .notConfigured | .blocked | .badParam | .refusedRole | .conflict | .notOwner | .unknownRequest | .configInvalid =>
    s.stepDone c false

/-- A step posts its motion, or tests its wait mask (R103, R107). An EMPTY step, which commit keeps out of every run
(R115), fails (log 24). -/
def State.tryStep (s : State) (c : Ctx) : State :=
  match s.stepRecord c with
  | .motion m => let (answer, s1) := s.postMotion c m; s1.takeAnswer c answer
  | .wait w =>
    if CondSet.within w.mask s.permit.conds then s.stepDone c true
    else s.setContext c { s.context c with phase := .conditions }
  | .empty => s.stepDone c false

/-- A step start (R102). A run that has ended since the step was named starts none. -/
def State.startStep (s : State) (c : Ctx) (i : Fin 32) : State :=
  let r := s.context c
  if r.state ≠ .active then s
  else if s.device.state ≠ .ready then s.endRun c .stopped
  else if 64 ≤ r.started then (s.endRun c .overrun).push (.occurrence .sequenceOverrun (.ctx c))
  else (s.setContext c { r with started := r.started + 1, step := some i, stepTimer := some 0 }).tryStep c

/-- A context is waiting for the slot of this actuator (R104). -/
def State.waitsForSlot (s : State) (c : Ctx) (a : Actuator) : Bool :=
  decide ((s.context c).state = .active) && decide ((s.context c).phase = .slotBusy)
    && decide (s.stepActuator c = some a)

/-- A slot-free arrival at one context: in SLOT_BUSY on the actuator it posts again (R104). -/
def State.slotFree (s : State) (c : Ctx) (a : Actuator) : State :=
  if s.waitsForSlot c a then s.tryStep c else s

/-- A slot that has entered IDLE is handed to both contexts (R104, which lets either be first): the one of the lower number
posts first, and a waiting one before the next step of the context whose motion ended there, since that step starts behind this
arrival (DESIGN CHOICE, log 36). -/
def State.takeSlotFree (s : State) (a : Actuator) : State := (s.slotFree 0 a).slotFree 1 a

/-- A change of a condition at one context: a WAIT step whose mask names it tests the mask (R107). -/
def State.contextCondition (s : State) (c : Ctx) (n : Cond) : State :=
  let r := s.context c
  if decide (r.state = .active) && decide (r.phase = .conditions) then
    match s.stepRecord c with
    | .wait w =>
      if w.mask.has n && CondSet.within w.mask s.permit.conds then s.stepDone c true else s
    | .motion _ | .empty => s
  else s

/-- The run of a context is in progress or suspended. -/
def Context.running (r : Context) : Bool := decide (r.state ≠ .idle)

/-- STOPPED entry at one context (R113). -/
def State.stopContext (s : State) (c : Ctx) : State :=
  if (s.context c).running then s.endRun c .stopped else s

/-- The actuator of a context's motion in hand (R106, R111, R112). -/
def State.motionInHand (s : State) (c : Ctx) : Option Actuator :=
  if (s.context c).phase = .inMotion then s.stepActuator c else none

/-- A context sends a cancel or lapse arrival to the slot of a motion (R11, R106, R111, R112). -/
def State.endMotionOf (s : State) (c : Ctx) (inHand : Option Actuator) (o : Ending) : State :=
  match inHand with
  | some a => s.contextEnds c a o
  | none => s

/-- The step timer has reached the time limit: a motion in hand is cancelled and stays in hand until its report, and any other
step fails (R106, R107). -/
def State.stepTimeout (s : State) (c : Ctx) : State :=
  if (s.context c).phase = .inMotion then
    (s.setContext c { s.context c with stepTimer := none }).endMotionOf c (s.motionInHand c) .cancelled
  else s.stepDone c false

/-- A held run lapses: the context lets go of its motion in hand, whose report it then does not judge (R111). -/
def State.lapseRun (s : State) (c : Ctx) : State :=
  (s.setContext c { s.context c with
    state := .paused, phase := .none, stepTimer := none, holdTimer := none, pauseTimer := some 0 }).endMotionOf c
    (s.motionInHand c) .lapsed

/-- A paused run resumes: its current step restarts, which is no step start (R111). -/
def State.resumeRun (s : State) (c : Ctx) : State :=
  (s.setContext c { s.context c with
    state := .active, pauseTimer := none, holdTimer := some 0, stepTimer := some 0 }).tryStep c

/-- A run is cancelled, with a cancel arrival at the slot of its motion in hand, whose report finds the context IDLE (R112). -/
def State.cancelRun (s : State) (c : Ctx) : State :=
  (s.endRun c .cancelled).endMotionOf c (s.motionInHand c) .cancelled

/-- A context takes a run of an entry and starts its first step (R101). -/
def State.startRun (s : State) (c : Ctx) (n : Fin 8) (l : Link) (first : Fin 32) : State :=
  let e := s.tables.entries.get n
  (s.setContext c { s.context c with
    state := .active, sequence := some n, owner := some l, held := e.held, started := 0, result := .none, phase := .none
    stepTimer := none, holdTimer := if e.held then some 0 else none, pauseTimer := none }).push (.stepStart c first)

end Sys2Proof.Machine
end

