-- ==== Sys2Proof/Machine/Device.lean ====
section
/-! DEFINITION. The Device State Controller: STOPPED entry, the movement rule, the emergency stop, dormancy, wakes and resets
(R142 to R159), and the arrivals of the pump contact at the arbiter (R38, R40, R41). -/

namespace Sys2Proof.Machine

/-! ### Stopping (R145, R148, R149) -/

/-- STOPPED entry from READY, at the contexts, the slots and the arbiter (R23, R33, R113, R149). -/
def State.enterStopped (s : State) : State :=
  let s1 := ((s.setDeviceState .stopped).stopContext 0).stopContext 1
  let s2 := Actuator.all.foldl State.stopSlot s1
  { s2 with arbiter := { s2.arbiter with callList := [], prime := Table.fill 4 .stopped } }

/-- A hatch position is not SHUT (R148). -/
def State.hatchOpen (s : State) : Bool := Hatch.all.any fun h => decide (s.hatchPos h ≠ .shut)

/-- The movement rule (R148). -/
def State.movementRule (s : State) : State :=
  if decide (s.device.state = .ready) && !s.cond .standstill && (!s.slotsIdle || !s.cond .stowed || s.hatchOpen) then
    s.enterStopped.push (.occurrence .vehicleMoved .none)
  else s

/-- A change of the debounced ESTOP input at the Device State Controller; in STARTUP and DORMANT it is not taken (R145). -/
def State.estopChanged (s : State) : State :=
  if !s.awake then s
  else if s.asserted .estop then
    let s1 := if s.device.estopFlag then s
      else ({ s with device := { s.device with estopFlag := true } }).push (.occurrence .estop .none)
    if s.device.state = .ready then s1.enterStopped else s1
  else if s.deasserted .estop && s.device.estopFlag then
    ({ s with device := { s.device with estopFlag := false } }).push (.conditionEnd .estop .none)
  else s

/-! ### The pump contact (R37, R38, R40, R41) -/

/-- The pump owner loses PUMPRUN in RUNNING (R40). -/
def State.pumpRunLost (s : State) : State :=
  match s.arbiter.pumpOwner with
  | some a =>
    if (s.slot a).state = .running then (s.endMotion a .pumpFault).push (.occurrence .pumpRunLost .none) else s
  | none => s

/-- A slot in PRIMING beyond its prime limit, or at it, has no PUMPRUN (R38). -/
def State.failPriming (s : State) (a : Actuator) : State :=
  (s.endMotion a .pumpFault).push (.occurrence .pumpNoRun .none)

/-- PUMPRUN de-asserted after the prime limit, at one slot (R38). -/
def State.passedPriming (s : State) (a : Actuator) : State :=
  if decide ((s.slot a).state = .priming) && decide (s.prime a = .passed) then s.failPriming a else s

/-- The end of PUMP_STUCK (R41). -/
def State.endStuck (s : State) : State :=
  if s.stuck.flag then ({ s with stuck := { s.stuck with flag := false } }).push (.conditionEnd .pumpStuck .none) else s

/-- A change of the debounced PUMPRUN input at the Supply Arbiter (R35, R37, R38, R40, R41). -/
def State.pumprunChanged (s : State) : State :=
  if s.asserted .pumprun then s.push .primeTest
  else (Actuator.all.foldl State.passedPriming s.pumpRunLost).endStuck

/-- A change of an input's asserted state at the readers that take it as an arrival of its own; the conditions and hatch
positions that read it are derived (R44, R53). -/
def State.inputChanged (s : State) (i : Input) : State :=
  match i with
  | .estop => s.estopChanged
  | .pumprun => s.pumprunChanged
  | _ => s

/-! ### Pins (R43, R44, R45) -/

/-- The level the input's debounce or filter compares: the pin level, and for SPEED the level after polarity (R44, R45). -/
def State.sensed (s : State) (i : Input) (level : Bool) : Bool :=
  if i = .speed then (s.setup i).polarity.asserts level else level

/-- The IGN pin is at its asserted level (R156). -/
def State.ignPin (s : State) : Bool := (s.setup .ign).polarity.asserts (s.input .ign).level

/-- The stability timer after the compared level has become `sensed`: stopped when it equals the level taken, otherwise
from 0 (R44, R45). In DORMANT nothing is debounced (R46). -/
def State.stability (s : State) (i : Input) (sensed : Bool) : Option Nat :=
  if s.device.state = .dormant then none
  else if (s.input i).debounced = some sensed then none
  else some 0

/-- In DORMANT the watch on IGN starts at its asserted level and stops away from it (R156). -/
def State.watchIgn (s : State) : State :=
  if s.device.state = .dormant then { s with device := { s.device with ignWatch := if s.ignPin then some 0 else none } }
  else s

/-- The pin level of an input becomes `level` under the drive `d` (R44, R45). -/
def State.setLevel (s : State) (i : Input) (d : Drive) (level : Bool) : State :=
  let r := s.input i
  if r.level = level then s.setInput i { r with drive := d }
  else
    let s1 := s.setInput i { r with drive := d, level := level, timer := s.stability i (s.sensed i level) }
    if i = .ign then s1.watchIgn else s1

/-- The outside changes what drives an input's pin (R43). An undriven pin with bias NONE reads a free level (log 9). -/
def State.drivePin (s : State) (i : Input) (d : Drive) : State :=
  ({ s with draws := s.draws + 1 }).setLevel i d (pinLevel d (s.setup i).bias s.freeLevel)

/-! ### Wakes and DORMANT (R155, R156, R157) -/

/-- Every lamp is without MOTION and MANUAL demand (R155). -/
def State.lampsQuiet (s : State) : Bool :=
  s.lamps.cells.all fun r => decide (r.motion = .absent) && r.manual.isNone

/-- The four conditions of R155 hold in a state that may be left for DORMANT. -/
def State.mayDoze (s : State) : Bool :=
  (decide (s.device.state = .ready) || decide (s.device.state = .unconfigured) || decide (s.device.state = .stopped))
    && !s.cond .ignitionOn && s.slotsIdle && s.contextsIdle && s.lampsQuiet
    && timerAt s.device.dormancy s.dormancyDelay

/-- A link discards its partial frame and its replies (R155, R169). -/
def LinkRec.discard (r : LinkRec) : LinkRec := { r with rx := .hunt, gap := none, sending := none, waiting := none }

/-- DORMANT entry, at every block (R46, R78, R129, R141, R151, R155, R169). -/
def State.enterDormant (s : State) : State :=
  { s with
    device := { s.device with
      state := .dormant, prior := some s.device.state, dormancy := none
      ignWatch := if s.ignPin then some 0 else none }
    inputs := s.inputs.map fun r => { r with debounced := none, timer := none }
    permit := { s.permit with
      standstill := false, lastRise := none, quiet := none, hatch := Table.fill 2 .between, conds := CondSet.empty }
    captures := s.captures.map Capture.dormantEntry
    lamps := s.lamps.map LampRec.dormantEntry
    bank := ⟨Table.fill 12 .off, s.bank.channels.map fun r => r.take .off⟩
    supply := ⟨[], .low, false, none, none⟩
    stuck := { s.stuck with timer := none }
    links := s.links.map LinkRec.discard }

/-- The dormancy test (R155). -/
def State.testDormancy (s : State) : State := if s.mayDoze then s.enterDormant else s

/-- A wake: STARTUP begins, and debouncing, sampling, capture and the clock monitor start again; `drives` tells whether the
part drives WAKE (R144, R156, R157). -/
def State.wake (s : State) (drives : Bool) : State :=
  { s with
    device := { s.device with
      state := .startup, startup := some 0, ignWatch := none
      wakeDrive := if drives then some 0 else s.device.wakeDrive }
    inputs := s.inputs.map fun r => { r with debounced := none, timer := some 0 }
    supply := { s.supply with sampleTimer := some (ms 10), clockTimer := some 0 } }

/-! ### Resets (R158, R159) -/

/-- A link's reset-cause set after a reset (R159). -/
def addCause (k : ResetKind) (causes : Table Bool 5) : Table Bool 5 :=
  if k = .powerOn then powerOnCauses else causes.set k.ix true

/-- Every block returns to its reset values; the pins, the waiting commands and, but for POWER-ON, the reset-cause sets are
kept. The roles are those the links had: `latchRoles` takes the straps when the reset ends. -/
def State.resetBlocks (s : State) (k : ResetKind) : State :=
  { State.reset with
    pins := s.pins
    links := s.links.map fun r => resetLink r.role (addCause k r.causes)
    inputs := Table.ofFn fun i =>
      resetInput (s.inputs.get i).drive (defaultInput (Input.ofIx i)).bias s.freeLevel
    draws := s.draws + 1
    pending := s.pending }

/-- The reset ends: the straps are latched and select the role plan (R158, R174). -/
def State.latchRoles (s : State) : State :=
  { s with links := Table.ofFn fun l => { s.links.get l with role := rolePlan s.pins.strap1 s.pins.strap0 l } }

/-- A reset that ends as it comes: POWER-ON, BROWN-OUT, CLOCK or RESTART (R158). -/
def State.resetPart (s : State) (k : ResetKind) : State := (s.resetBlocks k).latchRoles

end Sys2Proof.Machine
end

