-- ==== Sys2Proof/Machine/Settle.lean ====
section
/-! DEFINITION. The arrivals inside a step: what each does at its owner, and how they are taken one after another until none is
left. An arrival's own consequences are taken before the arrivals that stood behind it (log 4). -/

namespace Sys2Proof.Machine

/-- The loss of a condition at one slot (R14, R16). -/
def State.loseCondition (c : Cond) (s : State) (a : Actuator) : State :=
  let r := s.slot a
  if r.state.granted && r.need.has c then
    match c with
    | .gate0 | .gate1 =>
      if decide (r.state = .priming) || decide (r.state = .running) then s.enterHolding a else s
    | .heightValid | .tiltValid | .pressureValid => s.endMotion a .sensorFault
    | .supplyUsable => s.endMotion a (if r.stroke = some .powered then .lowSupply else .interlock)
    | .supplyNormal | .estopClear | .standstill => s
    | .parked | .ignitionOn | .stowed | .atGround | .liftAtBed | .khShut | .khOpen | .ohShut | .ohOpen =>
      s.endMotion a .interlock
  else s

/-- The return of a hold-class condition at one slot: a HOLDING slot whose gates all hold enters PRIMING (R15). -/
def State.regainGate (s : State) (a : Actuator) : State :=
  let r := s.slot a
  if decide (r.state = .holding) && holdClassHolds r.need s.permit.conds then s.enterPriming a else s

/-- A change of a condition at the slots (R14, R15, R16). -/
def State.slotsTakeCondition (s : State) (c : Cond) (v : Bool) : State :=
  if v then (if c.isHold then Actuator.all.foldl State.regainGate s else s)
  else Actuator.all.foldl (State.loseCondition c) s

/-- A change of a condition at the contexts (R107). -/
def State.contextsTakeCondition (s : State) (c : Cond) : State := (s.contextCondition 0 c).contextCondition 1 c

/-- A change of a condition at its readers (R53). -/
def State.takeCondition (s : State) (c : Cond) (v : Bool) : State :=
  let s1 := (s.slotsTakeCondition c v).contextsTakeCondition c
  let s2 := if !v && (decide (c = .standstill) || decide (c = .stowed)) then s1.push .movement else s1
  s2.push .round

/-- A change of a stroke's readiness at the slot and the arbiter (R17, R60). -/
def State.takeReadiness (s : State) (a : Actuator) (k : Stroke) (cause : Option Cause) : State :=
  (match cause with
    | some c => if (s.slot a).stroke = some k then s.endGranted a c.ending else s
    | none => s).push .round

/-- HATCH_SWITCH as the position and the flag stand (R50). -/
def State.judgeSwitches (s : State) (h : Hatch) : State :=
  let subject : Subject := .actuator h.actuator
  let flag := s.permit.switchFault.get h.ix
  let setFlag (b : Bool) : State := { s with permit := { s.permit with switchFault := s.permit.switchFault.set h.ix b } }
  if decide (s.hatchPos h = .unknown) && !flag then (setFlag true).push (.occurrence .hatchSwitch subject)
  else if decide (s.hatchPos h ≠ .unknown) && flag then (setFlag false).push (.conditionEnd .hatchSwitch subject)
  else s

/-- A change of a hatch's position at the permit logic and the hatch's slot (R49, R50, R92). -/
def State.takeHatchMove (s : State) (h : Hatch) : State := (s.judgeSwitches h).runEndTest h.actuator

/-- A change of a reported value at its readers (R74, R91, R94). -/
def State.takeReported (s : State) (m : Sensor) : State :=
  match m with
  | .height => s.runEndTest .lift
  | .tilt => s.runEndTest .tilt
  | .pressure => s.testOverload

/-- What an arrival does at its owner. -/
def State.take (s : State) : Arrival → State
  | .round => s.takeRound
  | .primeTest => s.primeTests
  | .condition c v => s.takeCondition c v
  | .readiness a k cause => s.takeReadiness a k cause
  | .hatchMoved h => s.takeHatchMove h
  | .reported m => s.takeReported m
  | .slotFree a => s.takeSlotFree a
  | .occurrence k subject => s.takeOccurrence k subject
  | .conditionEnd k subject => s.takeConditionEnd k subject
  | .stepStart c i => s.startStep c i
  | .movement => s.movementRule

/-- The first arrival is taken; what it hands on, and what follows continuously from it, comes before the rest. -/
def State.takeFirst (s : State) (x : Arrival) (rest : List Arrival) : State :=
  let s1 := (({ s with agenda := [] }).take x).derive
  { s1 with agenda := s1.agenda ++ rest }

/-- Arrivals are taken until none is left, at most `fuel` of them. -/
def State.settle : Nat → State → State
  | 0, s => s
  | fuel + 1, s =>
    match s.agenda with
    | [] => s
    | x :: rest => State.settle fuel (s.takeFirst x rest)

/-- How many arrivals one step takes at most (log 5). -/
def arrivalBound : Nat := 20000

/-- A step's own effect has been made: what follows continuously is derived, and its arrivals are taken. -/
def State.finish (s : State) : State := State.settle arrivalBound s.derive

/-- As `finish`, with the dormancy test, which any step but a frame may pass (R155). -/
def State.finishEvent (s : State) : State := s.finish.testDormancy

end Sys2Proof.Machine
end

