-- ==== Sys2Proof/Machine/Links.lean ====
section
/-! DEFINITION. The station links: the CRC, receiving characters, the frames of requests and replies, and how a request is
taken and its answer posted (R169 to R176). -/

namespace Sys2Proof.Machine

/-! ### CRC (R171) -/

/-- The remainder after `n` shifts to the left, each combined with 0x07 when a 1 left the top place. -/
def crcShifts : Nat → Byte → Byte
  | 0, r => r
  | n + 1, r => crcShifts n (if r.msb then (r <<< 1) ^^^ 0x07 else r <<< 1)

/-- The remainder after one more byte. -/
def crcByte (r b : Byte) : Byte := crcShifts 8 (r ^^^ b)

/-- The CRC of the bytes of LEN and body. -/
def crc8 (bs : List Byte) : Byte := bs.foldl crcByte 0

/-! ### Receiving (R170) -/

/-- The receive state after a character. -/
def Rx.next (r : Rx) (c : Byte) : Rx :=
  match r with
  | .hunt => if c = 0xA5 then .length else .hunt
  | .length => if 2 ≤ c.toNat ∧ c.toNat ≤ 60 then .body c.toNat [] else .hunt
  | .body len got => if got.length + 1 < len then .body len (got ++ [c]) else .check len (got ++ [c])
  | .check _ _ => .hunt

/-- The receive state after characters. -/
def Rx.run (r : Rx) (cs : List Byte) : Rx := cs.foldl Rx.next r

/-- The body of the frame that a character completes, when its CRC is good. -/
def Rx.completes (r : Rx) (c : Byte) : Option (List Byte) :=
  match r with
  | .check len got => if c = crc8 (byte len :: got) then some got else none
  | .hunt | .length | .body _ _ => none

/-- The bodies of the frames that characters complete. -/
def Rx.frames : Rx → List Byte → List (List Byte)
  | _, [] => []
  | r, c :: cs => (r.completes c).toList ++ Rx.frames (r.next c) cs

/-- The characters complete no frame with a good CRC: what FRAME_DISCARDED carries. -/
def Rx.noValidFrame (r : Rx) (cs : List Byte) : Bool := (r.frames cs).isEmpty

/-! ### Frames (R183) -/

/-- The characters of a request with a code, a tag and parameters. -/
def requestFrame (code tag : Byte) (params : List Byte) : List Byte :=
  let body := code :: tag :: params
  0xA5 :: byte body.length :: body ++ [crc8 (byte body.length :: body)]

/-- The code byte of a reply: the request's code + 0x80, and a free value for a request code of 0x80 or more, whose sum does
not fit the byte (R183, log 34). -/
def Reply.codeByte (r : Reply) : Byte := if r.code.toNat < 0x80 then r.code + 0x80 else Config.replyCodeBeyond r.code

/-- The body of a reply. -/
def Reply.body (r : Reply) : List Byte := r.codeByte :: r.tag :: r.result.code :: r.data

/-- The characters of a reply on the line. -/
def Reply.frame (r : Reply) : List Byte :=
  0x5A :: byte r.body.length :: r.body ++ [crc8 (byte r.body.length :: r.body)]

/-! ### Roles (R175) -/

/-- The roles that may make a request: CAB, REAR, KERB, SERVICE. -/
structure Permission where
  cab : Bool
  rear : Bool
  kerb : Bool
  service : Bool
  deriving DecidableEq, Repr

def Permission.allows (p : Permission) : Role → Bool
  | .cab => p.cab
  | .rear => p.rear
  | .kerb => p.kerb
  | .service => p.service
  | .absent => false

def everyRole : Permission := ⟨true, true, true, true⟩
def cabOnly : Permission := ⟨true, false, false, false⟩
def cabRear : Permission := ⟨true, true, false, false⟩
def cabService : Permission := ⟨true, false, false, true⟩
def cabRearKerb : Permission := ⟨true, true, true, false⟩
def cabRearService : Permission := ⟨true, true, false, true⟩
def serviceOnly : Permission := ⟨false, false, false, true⟩

/-- The roles for HOLD and RELEASE, by the actuator byte (R175). -/
def holdPermission (params : List Byte) : Permission :=
  match params.head?.bind Actuator.ofByte with
  | some .lift | some .tilt => ⟨false, true, false, true⟩
  | some .khatch | some .ohatch => ⟨false, false, true, true⟩
  | none => ⟨false, true, true, true⟩

/-! ### Taking a request (R172, R173) -/

/-- A start bit wakes a DORMANT part whose link has a role (R156). -/
def State.startBitWakes (s : State) (l : Link) : Bool :=
  decide (s.device.state = .dormant) && decide ((s.link l).role ≠ .absent)

/-- The waiting reply on the link, dropped by a start bit, is the one a RESTART reset follows (R158, R173). -/
def LinkRec.dropRestarts (r : LinkRec) : Bool := r.waiting.any (·.restarts)

/-- A valid frame at the Device State Controller: the dormancy timer restarts, and on the owner's link the owner idle timer
(R147, R155, R172). -/
def Device.validFrame (d : Device) (l : Link) : Device :=
  { d with
    dormancy := d.dormancy.map fun _ => 0
    ownerIdle := if decide (d.state = .config) && decide (d.owner = some l) then some 0 else d.ownerIdle }

/-- The link right after a frame: hunting, with any reply that waited dropped by the frame's start bit (R170, R173). -/
def LinkRec.afterFrame (r : LinkRec) : LinkRec := { r with rx := .hunt, gap := none, waiting := none }

/-- The link's role takes frames and the part is awake and out of reset, so a whole frame on the link is valid and taken. A
frame whose start bit drops the reply of a RESTART is not: the reset comes first (R156, R158, R170, R173, log 13). -/
def State.takesFrame (s : State) (l : Link) : Bool :=
  !s.pins.resetbLow && decide ((s.link l).role ≠ .absent) && decide (s.device.state ≠ .dormant)
    && !(s.link l).dropRestarts

/-- The state in which the request of a valid frame is taken. -/
def State.withFrame (s : State) (l : Link) : State :=
  { s.setLink l (s.link l).afterFrame with device := s.device.validFrame l }

/-- What a whole frame that is not taken leaves: nothing while RESETB is low, a hunting link for a role NONE, a wake in
DORMANT, or the RESTART reset (R156, R158, R170, logs 13 and 23). -/
def State.losesFrame (s : State) (l : Link) : State :=
  if s.pins.resetbLow then s
  else if (s.link l).role = .absent then s.setLink l { s.link l with rx := .hunt, gap := none }
  else if s.device.state = .dormant then (s.wake true).finish
  else s.resetPart .restart

/-- An owner's answer to a request: the result, the reply's data, and the state after the request's effect. -/
structure Answer where
  result : Result
  data : List Byte
  state : State
  restarts : Bool
  deriving DecidableEq, Repr

/-- An answer without data. -/
def State.answer (s : State) (r : Result) : Answer := ⟨r, [], s, false⟩

/-- An accepted answer with data. -/
def State.answerData (s : State) (data : List Byte) : Answer := ⟨.accepted, data, s, false⟩

/-- A reply waits on the link (R173). -/
def State.replied (s : State) (l : Link) (code tag : Byte) (r : Result) (data : List Byte) (restarts : Bool := false) :
    State :=
  s.setLink l { s.link l with waiting := some ⟨code, tag, r, data, restarts⟩ }

/-- The answer becomes the link's waiting reply (R173). -/
def Answer.post (a : Answer) (l : Link) (code tag : Byte) : State :=
  a.state.replied l code tag a.result a.data a.restarts

/-- Steps 2 to 4 of R172: the role, STARTUP, then the owner's rule. -/
def State.checkedAnswer (s : State) (l : Link) (who : Permission) (inStartup : Bool) (rule : State → Answer) : Answer :=
  if !who.allows (s.link l).role then s.answer .refusedRole
  else if decide (s.device.state = .startup) && !inStartup then s.answer .refusedState
  else rule s

/-- A request is taken: the frame arrives, the checks are made, and the owner's answer is posted (R172, R173). -/
def State.serve (s : State) (l : Link) (code tag : Byte) (who : Permission) (inStartup : Bool) (rule : State → Answer) :
    State :=
  if s.takesFrame l then ((s.withFrame l).checkedAnswer l who inStartup rule).post l code tag else s.losesFrame l

/-! ### Discarded characters (R170) -/

/-- Characters that complete no frame are received; the gap timer restarts at each one inside a frame (R170). -/
def State.receive (s : State) (l : Link) (cs : List Byte) : State :=
  let r := s.link l
  let rx := r.rx.run cs
  s.setLink l { r with rx := rx, gap := if rx = .hunt then none else some 0 }

/-- The partial frame is discarded and the link hunts (R170). -/
def State.discardPartial (s : State) (l : Link) : State := s.setLink l { s.link l with rx := .hunt, gap := none }

/-! ### Replies on the line (R173) -/

/-- The waiting reply starts when none is being sent. -/
def LinkRec.startReply (r : LinkRec) : LinkRec :=
  if r.sending.isNone then { r with sending := r.waiting, waiting := none } else r

/-- The reply being sent has ended, and the one waiting starts. -/
def LinkRec.endReply (r : LinkRec) : LinkRec := ({ r with sending := none }).startReply

end Sys2Proof.Machine
end

