-- ==== Sys2Proof/Machine/Records.lean ====
section
/-! DEFINITION. The configuration records in the frames of CONFIG_WRITE and CONFIG_READ: layouts, checks, ranges (R96, R97, R117,
R179, R180), the live tables they are stored in, and the checks of CONFIG_COMMIT (R115, R182). Codings that R179 does not
spell out are logs 16 and 17. -/

namespace Sys2Proof.Machine

/-- A record of one of the nine tables, with its place. -/
inductive Record where
  | outputMap (c : Fin 12) (f : Option Func)
  | inputSetup (i : Fin 13) (r : InputSetup)
  | policy (i : Fin 8) (r : Policy)
  | scaling (r : Scaling)
  | profile (r : ProfileCfg)
  | lamp (n : Fin 4) (r : LampCfg)
  | step (i : Fin 32) (r : StepRecord)
  | entry (i : Fin 8) (r : EntryRecord)
  | timing (r : Timing)
  deriving DecidableEq, Repr

/-! ### Reading records from bytes -/

def InputSetup.ofBytes : List Byte → Option InputSetup
  | [b, p] => do some ⟨← biasOfByte b, ← polarityOfByte p⟩
  | _ => none

def Policy.ofBytes : List Byte → Option Policy
  | [p, m, t, e2, e1, e0] => do
    let modes ← flagsOfByte 2 m
    let extra ← condsOfNat (natOfBytes [e2, e1, e0])
    some ⟨p.toNat, modes.get 0, modes.get 1, t.toNat, extra⟩
  | _ => none

def Scaling.ofBytes : List Byte → Option Scaling
  | [a1, a0, b1, b0, c1, c0, d1, d0, e1, e0, f1, f0] =>
    some ⟨natOfBytes [a1, a0], natOfBytes [b1, b0], natOfBytes [c1, c0], natOfBytes [d1, d0], natOfBytes [e1, e0],
      natOfBytes [f1, f0]⟩
  | _ => none

def ProfileCfg.ofBytes : List Byte → Option ProfileCfg
  | [a1, a0, b1, b0, c1, c0, d1, d0, e1, e0, f1, f0, g1, g0] =>
    some ⟨natOfBytes [a1, a0], natOfBytes [b1, b0], natOfBytes [c1, c0], natOfBytes [d1, d0], natOfBytes [e1, e0],
      natOfBytes [f1, f0], natOfBytes [g1, g0]⟩
  | _ => none

def LampCfg.ofBytes : List Byte → Option LampCfg
  | [m, fl, on1, off1, on2, off2, on3, off3, t1, t0] => do
    let mask ← flagsOfByte 4 m
    let flags ← flagsOfByte 2 fl
    some ⟨mask, flags.get 0, flags.get 1, ⟨on1.toNat, off1.toNat⟩, ⟨on2.toNat, off2.toNat⟩, ⟨on3.toNat, off3.toNat⟩,
      natOfBytes [t1, t0]⟩
  | _ => none

/-- An EMPTY record gives no other field (R96, log 17). -/
def emptyStepOfBytes (a k : Byte) (target mask limit : Nat) (g n f : Byte) : Option StepRecord :=
  if a = absentByte ∧ k = absentByte ∧ target = 0xFFFF ∧ (mask = 0 ∨ mask = 0xFFFFFF) ∧ limit = 0xFFFF
      ∧ g = absentByte ∧ n = absentByte ∧ f = absentByte then
    some .empty
  else none

/-- A MOTION record has its actuator and stroke, no wait mask, and no target for a hatch (R96, log 17). -/
def motionStepOfBytes (a k : Byte) (target mask limit : Nat) (g n f : Byte) : Option StepRecord := do
  let actuator ← Actuator.ofByte a
  let stroke ← Stroke.ofByte k
  let gate ← gateOfByte g
  let next ← indexOrAbsent 32 n
  let onFail ← indexOrAbsent 32 f
  if (mask = 0 ∨ mask = 0xFFFFFF) ∧ (target = 0xFFFF ∨ actuator.hatch? = none) then
    some (.motion ⟨actuator, stroke, if target = 0xFFFF then none else some target, limit, gate, next, onFail⟩)
  else none

/-- A WAIT record gives no actuator, stroke, target or gate (R96, log 17). -/
def waitStepOfBytes (a k : Byte) (target mask limit : Nat) (g n f : Byte) : Option StepRecord := do
  let conds ← condsOfNat mask
  let next ← indexOrAbsent 32 n
  let onFail ← indexOrAbsent 32 f
  if a = absentByte ∧ k = absentByte ∧ target = 0xFFFF ∧ g = absentByte then some (.wait ⟨conds, limit, next, onFail⟩)
  else none

def StepRecord.ofBytes : List Byte → Option StepRecord
  | [kind, a, k, t1, t0, m2, m1, m0, l1, l0, g, n, f] =>
    let target := natOfBytes [t1, t0]
    let mask := natOfBytes [m2, m1, m0]
    let limit := natOfBytes [l1, l0]
    if kind = 0 then emptyStepOfBytes a k target mask limit g n f
    else if kind = 1 then motionStepOfBytes a k target mask limit g n f
    else if kind = 2 then waitStepOfBytes a k target mask limit g n f
    else none
  | _ => none

def EntryRecord.ofBytes : List Byte → Option EntryRecord
  | [f, h] => do some ⟨← indexOrAbsent 32 f, ← boolOfByte h⟩
  | _ => none

def Timing.ofBytes : List Byte → Option Timing
  | [r, l1, l0, t1, t0, p1, p0, d] =>
    some ⟨r.toNat, natOfBytes [l1, l0], natOfBytes [t1, t0], natOfBytes [p1, p0], d.toNat⟩
  | _ => none

/-- The record a CONFIG_WRITE gives, as written, or none when it fails the parameter check (R180). -/
def Record.ofBytes (table index : Byte) (bs : List Byte) : Option Record :=
  match table.toNat with
  | 1 => do
    let c ← indexOfByte 12 index
    match bs with
    | [f] => do some (.outputMap c (← mapEntryOfByte f))
    | _ => none
  | 2 => do some (.inputSetup (← indexOfByte 13 index) (← InputSetup.ofBytes bs))
  | 3 => do some (.policy (← indexOfByte 8 index) (← Policy.ofBytes bs))
  | 4 => if index = 0 then (Scaling.ofBytes bs).map .scaling else none
  | 5 => if index = 0 then (ProfileCfg.ofBytes bs).map .profile else none
  | 6 => do some (.lamp (← indexOfByte 4 index) (← LampCfg.ofBytes bs))
  | 7 => do some (.step (← indexOfByte 32 index) (← StepRecord.ofBytes bs))
  | 8 => do some (.entry (← indexOfByte 8 index) (← EntryRecord.ofBytes bs))
  | 9 => if index = 0 then (Timing.ofBytes bs).map .timing else none
  | _ => none

/-! ### Ranges -/

def Policy.clamp (r : Policy) : Policy :=
  { r with priority := clampTo 0 7 r.priority, runLimit := clampTo 1 120 r.runLimit }

def Scaling.clamp (r : Scaling) : Scaling :=
  ⟨clampTo 300 2500 r.hmax, clampTo 100 2500 r.hbed, clampTo 300 1800 r.tspan, clampTo 100 1800 r.tclose,
    clampTo 2 30 r.sbH, clampTo 2 50 r.sbT⟩

def ProfileCfg.clamp (r : ProfileCfg) : ProfileCfg :=
  ⟨clampTo 100 600 r.umin, clampTo 150 1000 r.umax, clampTo 20 400 r.zone, clampTo 0 40 r.load, clampTo 5 200 r.rup,
    clampTo 5 200 r.rdown, clampTo 50 350 r.pover⟩

def Pattern.clamp (p : Pattern) : Pattern := { p with on := clampOn p.on }

def LampCfg.clamp (r : LampCfg) : LampCfg :=
  { r with
    motion := r.motion.clamp, fault := r.fault.clamp, manual := r.manual.clamp
    trail := clampTo 0 10000 r.trail }

/-- The largest target of a MOTION step (R96). -/
def stepTargetMax : Actuator → Nat
  | .lift => 2500
  | .tilt => 1800
  | .khatch | .ohatch => 0

def StepRecord.clamp : StepRecord → StepRecord
  | .empty => .empty
  | .motion m => .motion { m with
      target := m.target.map fun t => min t (stepTargetMax m.actuator), limit := clampTo 1 600 m.limit }
  | .wait w => .wait { w with limit := clampTo 1 600 w.limit }

def Timing.clamp (r : Timing) : Timing :=
  ⟨clampTo 10 50 r.refresh, clampTo 0 2000 r.lead, clampTo 0 10000 r.trailBase, clampTo 200 2000 r.primeLimit,
    clampTo 1 60 r.dormancy⟩

/-- Each numeric field is brought to the nearer limit of its range (R180). -/
def Record.clamp : Record → Record
  | .outputMap c f => .outputMap c f
  | .inputSetup i r => .inputSetup i r
  | .policy i r => .policy i r.clamp
  | .scaling r => .scaling r.clamp
  | .profile r => .profile r.clamp
  | .lamp n r => .lamp n r.clamp
  | .step i r => .step i r.clamp
  | .entry i r => .entry i r
  | .timing r => .timing r.clamp

/-! ### Writing records as bytes -/

def Pattern.bytes (p : Pattern) : List Byte := [byte p.on, byte p.off]

def StepRecord.bytes : StepRecord → List Byte
  | .empty => 0 :: List.replicate 12 absentByte
  | .motion m =>
    [1, byte m.actuator.ix.val, byte m.stroke.ix.val] ++ bytesOfNat 2 (m.target.getD 0xFFFF)
      ++ List.replicate 3 absentByte ++ bytesOfNat 2 m.limit
      ++ [byteOfGate m.gate, byteOfIndex m.next, byteOfIndex m.onFail]
  | .wait w =>
    [2, absentByte, absentByte, absentByte, absentByte] ++ bytesOfNat 3 w.mask.toNat ++ bytesOfNat 2 w.limit
      ++ [absentByte, byteOfIndex w.next, byteOfIndex w.onFail]

/-- The record in the layout of CONFIG_WRITE (R179, R181). -/
def Record.bytes : Record → List Byte
  | .outputMap _ f => [byteOfMapEntry f]
  | .inputSetup _ r => [byteOfBias r.bias, byteOfPolarity r.polarity]
  | .policy _ r =>
    [byte r.priority, byte (flagsToNat [r.hold, r.run]), byte r.runLimit] ++ bytesOfNat 3 r.extra.toNat
  | .scaling r =>
    bytesOfNat 2 r.hmax ++ bytesOfNat 2 r.hbed ++ bytesOfNat 2 r.tspan ++ bytesOfNat 2 r.tclose ++ bytesOfNat 2 r.sbH
      ++ bytesOfNat 2 r.sbT
  | .profile r =>
    bytesOfNat 2 r.umin ++ bytesOfNat 2 r.umax ++ bytesOfNat 2 r.zone ++ bytesOfNat 2 r.load ++ bytesOfNat 2 r.rup
      ++ bytesOfNat 2 r.rdown ++ bytesOfNat 2 r.pover
  | .lamp _ r =>
    [byteOfFlags r.mask, byte (flagsToNat [r.required, r.faultInd])] ++ r.motion.bytes ++ r.fault.bytes
      ++ r.manual.bytes ++ bytesOfNat 2 r.trail
  | .step _ r => r.bytes
  | .entry _ r => [byteOfIndex r.first, byteOfBool r.held]
  | .timing r =>
    byte r.refresh :: (bytesOfNat 2 r.lead ++ bytesOfNat 2 r.trailBase ++ bytesOfNat 2 r.primeLimit
      ++ [byte r.dormancy])

/-! ### The live tables -/

/-- The record at a place of the live tables, or none when the table code or the index is outside its range (R181). -/
def Tables.record (t : Tables) (table index : Byte) : Option Record :=
  match table.toNat with
  | 1 => (indexOfByte 12 index).map fun i => .outputMap i (t.outputMap.get i)
  | 2 => (indexOfByte 13 index).map fun i => .inputSetup i (t.inputSetup.get i)
  | 3 => (indexOfByte 8 index).map fun i => .policy i (t.policy.get i)
  | 4 => if index = 0 then some (.scaling t.scaling) else none
  | 5 => if index = 0 then some (.profile t.profile) else none
  | 6 => (indexOfByte 4 index).map fun i => .lamp i (t.lamps.get i)
  | 7 => (indexOfByte 32 index).map fun i => .step i (t.steps.get i)
  | 8 => (indexOfByte 8 index).map fun i => .entry i (t.entries.get i)
  | 9 => if index = 0 then some (.timing t.timing) else none
  | _ => none

/-- A record replaces the one before it (R180). -/
def Tables.store (t : Tables) : Record → Tables
  | .outputMap i f => { t with outputMap := t.outputMap.set i f }
  | .inputSetup i r => { t with inputSetup := t.inputSetup.set i r }
  | .policy i r => { t with policy := t.policy.set i r }
  | .scaling r => { t with scaling := r }
  | .profile r => { t with profile := r }
  | .lamp i r => { t with lamps := t.lamps.set i r }
  | .step i r => { t with steps := t.steps.set i r }
  | .entry i r => { t with entries := t.entries.set i r }
  | .timing r => { t with timing := r }

/-! ### The checks of a commit (R115, R182) -/

/-- The channel's entry names a function that a lower-numbered entry names too, or LOWER outside OUT0 to OUT3 (R134). -/
def Tables.mapOffends (t : Tables) (c : Chan) : Bool :=
  match t.outputMap.get c with
  | some f =>
    ((List.finRange 12).any fun d => decide (d < c) && decide (t.outputMap.get d = some f))
      || (decide (f = .lower) && decide (3 < c.val))
  | none => false

/-- An absent reference, or one that names a step that is not EMPTY. -/
def Tables.refOk (t : Tables) (i : Option (Fin 32)) : Bool :=
  match i with
  | some i => decide (t.steps.get i ≠ .empty)
  | none => true

/-- A step's references hold (R115, stage 1). -/
def Tables.stepRefsOk (t : Tables) : StepRecord → Bool
  | .empty => true
  | .motion m => t.refOk m.next && t.refOk m.onFail
  | .wait w => t.refOk w.next && t.refOk w.onFail

/-- A MOTION step's stroke has RUN in its modes (R115, stage 2). -/
def Tables.stepRunOk (t : Tables) : StepRecord → Bool
  | .motion m => (t.policy.get (strokeIx m.actuator m.stroke)).run
  | .empty | .wait _ => true

/-- The table code and index of the first failure a commit finds, or none when every check passes (R182). -/
def Tables.commitFailure (t : Tables) : Option (Byte × Byte) :=
  match (List.finRange 12).find? t.mapOffends with
  | some c => some (0x01, byte c.val)
  | none =>
    if t.profile.umax ≤ t.profile.umin then some (0x05, 0)
    else if t.scaling.hmax < t.scaling.hbed ∨ t.scaling.tspan < t.scaling.tclose then some (0x04, 0)
    else match (List.finRange 32).find? fun i => !t.stepRefsOk (t.steps.get i) with
      | some i => some (0x07, byte i.val)
      | none =>
        match (List.finRange 8).find? fun i => !t.refOk (t.entries.get i).first with
        | some i => some (0x08, byte i.val)
        | none => ((List.finRange 32).find? fun i => !t.stepRunOk (t.steps.get i)).map fun i => (0x07, byte i.val)

end Sys2Proof.Machine
end

