-- ==== Sys2Proof/Machine/Configuring.lean ====
section
/-! DEFINITION. The configuration requests: CONFIG_ENTER (R146), CONFIG_WRITE (R180) with the effects of a write on the blocks
(R44, R45, R61, R75, R130, R134), CONFIG_READ (R181) and CONFIG_COMMIT (R147, R182). -/

namespace Sys2Proof.Machine

/-! ### Entry -/

/-- CONFIG is entered (R129, R146). -/
def State.enterConfig (s : State) (l : Link) : State :=
  { s with
    device := { s.device with state := .config, configured := false, owner := some l, ownerIdle := some 0 }
    lamps := s.lamps.map LampRec.configEntry }

/-- CONFIG_ENTER at the Device State Controller (R146). -/
def configEnterRule (l : Link) (params : List Byte) (s : State) : Answer :=
  match s.device.state with
  | .startup | .config | .stopped | .dormant => s.answer .refusedState
  | .unconfigured => if params ≠ [] then s.answer .badParam else (s.enterConfig l).finish.answer .accepted
  | .ready =>
    if params ≠ [] then s.answer .badParam
    else if s.slotsIdle && s.contextsIdle then (s.enterConfig l).finish.answer .accepted
    else s.answer .busy

/-- CONFIG_ENTER (R146). -/
def execConfigEnter (l : Link) (tag : Byte) (params : List Byte) (s : State) : Host.Outcome State Fault Refusal :=
  .next (s.serve l 0x50 tag cabService false (configEnterRule l params))

/-! ### Writes -/

/-- The level read at an input's pin after a write to its setup: an undriven pin follows a new bias at once (R43, R44). -/
def State.levelAfterWrite (s : State) (i : Input) (new : InputSetup) : Bool :=
  if new.bias = (s.setup i).bias then (s.input i).level else pinLevel (s.input i).drive new.bias s.freeLevel

/-- A write to an input's setup: any change of the compared level starts or stops its timer, and an inverted polarity
reaches the input's readers as a change of that input (R44, R45, R61). -/
def State.writeInput (s : State) (i : Input) (new : InputSetup) : State :=
  let r := s.input i
  let level := s.levelAfterWrite i new
  let was := s.sensed i r.level
  let s1 := { s with
    tables := { s.tables with inputSetup := s.tables.inputSetup.set i.ix new }
    draws := s.draws + 1 }
  let s2 := s1.setInput i { r with
    level := level, timer := if s1.sensed i level = was then r.timer else s1.stability i (s1.sensed i level) }
  if new.polarity ≠ (s.setup i).polarity && r.debounced.isSome then s2.inputChanged i else s2

/-- A write to the spans reaches the height and the tilt channel (R75, log 27). -/
def State.writeScaling (s : State) (r : Scaling) : State :=
  (({ s with tables := { s.tables with scaling := r } }).setCapture .height
    ((s.capture .height).spanWritten r.hmax)).setCapture .tilt ((s.capture .tilt).spanWritten r.tspan)

/-- A write to a lamp's record restarts the pattern of the class in force in its ON phase (R119, R130, log 28). -/
def State.writeLamp (s : State) (n : Lamp) (r : LampCfg) : State :=
  ({ s with tables := { s.tables with lamps := s.tables.lamps.set n r } }).setLamp n ((s.lamp n).restart r true)

/-- A record is stored whole into the live table, and the blocks take the write (R61, R180). -/
def State.writeRecord (s : State) (r : Record) : State :=
  match r with
  | .inputSetup i r => s.writeInput (Input.ofIx i) r
  | .scaling r => s.writeScaling r
  | .lamp n r => s.writeLamp n r
  | .outputMap _ _ | .policy _ _ | .profile _ | .step _ _ | .entry _ _ | .timing _ =>
    { s with tables := s.tables.store r }

/-- CONFIG_WRITE of a record as it is written: each numeric field is first clamped (R180). -/
def State.takeWrite (s : State) (r : Record) : Answer :=
  ⟨if r.clamp = r then .accepted else .clamped, r.clamp.bytes, (s.writeRecord r.clamp).finish, false⟩

/-- The record a CONFIG_WRITE carries after its table code and index. -/
def writtenRecord : List Byte → Option Record
  | table :: index :: bytes => Record.ofBytes table index bytes
  | _ => none

/-- CONFIG_WRITE at its owner (R180). -/
def configWriteRule (l : Link) (params : List Byte) (s : State) : Answer :=
  if s.device.state ≠ .config then s.answer .refusedState
  else if s.device.owner ≠ some l then s.answer .notOwner
  else match writtenRecord params with
    | some r => s.takeWrite r
    | none => s.answer .badParam

/-- CONFIG_WRITE (R180). -/
def execConfigWrite (l : Link) (tag : Byte) (params : List Byte) (s : State) : Host.Outcome State Fault Refusal :=
  .next (s.serve l 0x51 tag cabService false (configWriteRule l params))

/-! ### Reads -/

/-- CONFIG_READ (R181). -/
def configReadRule (params : List Byte) (s : State) : Answer :=
  if !s.awake then s.answer .refusedState
  else match params with
    | [table, index] =>
      match s.tables.record table index with
      | some r => s.answerData r.bytes
      | none => s.answer .badParam
    | _ => s.answer .badParam

/-- CONFIG_READ (R181). -/
def execConfigRead (l : Link) (tag : Byte) (params : List Byte) (s : State) : Host.Outcome State Fault Refusal :=
  .next (s.serve l 0x52 tag cabService false (configReadRule params))

/-! ### Commit -/

/-- A commit that passes takes effect (R147). -/
def State.commit (s : State) : State :=
  { s with device := { s.device with
      state := if s.asserted .estop then .stopped else .ready, configured := true, owner := none, ownerIdle := none } }

/-- CONFIG_COMMIT at its owner (R147, R182). -/
def configCommitRule (l : Link) (params : List Byte) (s : State) : Answer :=
  if s.device.state ≠ .config then s.answer .refusedState
  else if s.device.owner ≠ some l then s.answer .notOwner
  else if params ≠ [] then s.answer .badParam
  else match s.tables.commitFailure with
    | some (table, index) => ⟨.configInvalid, [table, index], s, false⟩
    | none => s.commit.finish.answer .accepted

/-- CONFIG_COMMIT (R182). -/
def execConfigCommit (l : Link) (tag : Byte) (params : List Byte) (s : State) : Host.Outcome State Fault Refusal :=
  .next (s.serve l 0x53 tag cabService false (configCommitRule l params))

end Sys2Proof.Machine
end

