-- ==== Sys2Proof/Machine/Timers.lean ====
section
/-! DEFINITION. When each timer of the part has reached the limit its rule gives, and the step that an event makes. An event
whose timer has not reached its limit does not come, and so changes nothing (log 3). -/

namespace Sys2Proof.Machine

/-- An event comes to the part: nothing while RESETB is held low (log 23) or where it does not come; otherwise its effect,
with all that follows from it. -/
def State.event (s : State) (comes : Bool) (effect : State → State) : State :=
  if s.pins.resetbLow || !comes then s else (effect s).finishEvent

/-! ### Links -/

/-- The gap timer has reached 5 ms (R170). -/
def State.gapDue (s : State) (l : Link) : Bool := timerAt (s.link l).gap (ms 5)

/-! ### Slots and arbiter -/

/-- A holder's refresh timer has reached the refresh window (R7). -/
def State.holderDue (s : State) (a : Actuator) (l : Link) : Bool := timerAt ((s.slot a).holders.get l) s.refreshWindow

/-- A watch timer has reached the refresh window (R7). -/
def State.watchDue (s : State) (a : Actuator) (l : Link) : Bool := timerAt ((s.slot a).watch.get l) s.refreshWindow

/-- The run timer has reached the run limit in RUNNING (R13). -/
def State.runLimitDue (s : State) (a : Actuator) : Bool :=
  match (s.slot a).stroke with
  | some k => decide ((s.slot a).state = .running) && decide (s.runLimit a k ≤ (s.slot a).runTimer)
  | none => false

/-- The hold timer has reached 5 s in HOLDING (R15). -/
def State.holdDue (s : State) (a : Actuator) : Bool :=
  decide ((s.slot a).state = .holding) && timerAt (s.slot a).holdTimer (ms 5000)

/-- The 100 ms run-down of a powered stroke has passed in SETTLING (R20). -/
def State.runDownDue (s : State) (a : Actuator) : Bool :=
  decide ((s.slot a).state = .settling) && timerAt (s.slot a).runDown (ms 100)

/-- The update timer has reached 10 ms (R82). -/
def State.updateDue (s : State) : Bool := timerAt s.profile.update (ms 10)

/-- The overload timer has reached 500 ms (R95). -/
def State.overloadDue (s : State) : Bool := timerAt s.profile.overload (ms 500)

/-- The prime timer has reached the prime limit in PRIMING (R38). -/
def State.primeDue (s : State) (a : Actuator) : Bool :=
  match s.prime a with
  | .running t => decide ((s.slot a).state = .priming) && decide (s.primeLimit ≤ t)
  | .stopped | .passed => false

/-- The stuck watch timer has reached 500 ms (R41). -/
def State.stuckDue (s : State) : Bool := timerAt s.stuck.timer (ms 500)

/-! ### Inputs and measurement -/

/-- The stability timer of an input other than SPEED has reached 20 ms (R44). -/
def State.debounceDue (s : State) (i : Input) : Bool := decide (i ≠ .speed) && timerAt (s.input i).timer (ms 20)

/-- A new SPEED level has held for 1 ms (R45). -/
def State.speedDue (s : State) : Bool := timerAt (s.input .speed).timer (ms 1)

/-- The quiet timer has reached 2 s (R47). -/
def State.quietDue (s : State) : Bool := timerAt s.permit.quiet (ms 2000)

/-- The lost timer has reached 40 ms (R72). -/
def State.lostDue (s : State) (m : Sensor) : Bool := timerAt (s.capture m).lost (ms 40)

/-! ### Device and supply -/

/-- The startup timer has reached 100 ms (R144). -/
def State.startupDue (s : State) : Bool := decide (s.device.state = .startup) && timerAt s.device.startup (ms 100)

/-- A battery sample is due (R151). -/
def State.sampleDue (s : State) : Bool := timerAt s.supply.sampleTimer (ms 10)

/-- A period of the slow oscillator has ended (R154). -/
def State.clockDue (s : State) : Bool := timerAt s.supply.clockTimer (ms 1)

/-- The owner idle timer has reached 30 s in CONFIG (R147). -/
def State.ownerDue (s : State) : Bool := decide (s.device.state = .config) && timerAt s.device.ownerIdle (ms 30000)

/-- The dormancy timer has reached the dormancy delay (R155). -/
def State.dormancyDue (s : State) : Bool := timerAt s.device.dormancy s.dormancyDelay

/-- IGN has been at its asserted level for 20 ms in DORMANT (R156). -/
def State.ignDue (s : State) : Bool := decide (s.device.state = .dormant) && timerAt s.device.ignWatch (ms 20)

/-- The wake drive timer has reached 100 ms (R157). -/
def State.wakeDriveDue (s : State) : Bool := timerAt s.device.wakeDrive (ms 100)

/-! ### Lamps, drivers, sequences -/

/-- The phase timer has reached the duration of the present phase (R117). -/
def State.phaseDue (s : State) (n : Lamp) : Bool := timerAt (s.lamp n).phaseTimer (s.phaseDuration n)

/-- The trail timer has reached the trail in force (R120). -/
def State.trailDue (s : State) (n : Lamp) : Bool :=
  decide ((s.lamp n).motion = .trail) && timerAt (s.lamp n).trailTimer (s.trailInForce n)

/-- The lead clock has reached the lead time (R124). -/
def State.leadDue (s : State) (n : Lamp) : Bool := timerAt (s.lamp n).lead s.leadTime

/-- The lamp's prove timer has reached 50 ms with its function asked for on (R125). That of a lit lamp which no channel carries, too,
stands at 50 ms until the command comes (DESIGN CHOICE, log 46). -/
def State.proveDue (s : State) (n : Lamp) : Bool := (s.lamp n).lit && timerAt (s.lamp n).prove (ms 50)

/-- The channel's open-load test may be made: 50 ms after a turn-on, on a PWM channel in the on-phase of a period that began
at or after them (R137). On a channel that carries a lamp, too, the prove timer stands at 50 ms until the command comes (DESIGN
CHOICE, log 42). -/
def State.openLoadDue (s : State) (c : Chan) : Bool :=
  let r := s.chan c
  timerAt r.prove (ms 50) &&
    match r.drive with
    | .on => true
    | .pwm => r.armed && r.driven
    | .off | .tripped => false

/-- A PWM period of 5 ms has passed (R135). -/
def State.periodDue (s : State) (c : Chan) : Bool :=
  decide ((s.chan c).drive = .pwm) && timerAt (s.chan c).period (ms 5)

/-- The step timer has reached the step's time limit (R106, R107). -/
def State.stepDue (s : State) (c : Ctx) : Bool :=
  decide ((s.context c).state = .active) && timerAt (s.context c).stepTimer (s.stepLimit c)

/-- A held run's hold timer has reached the refresh window (R109). -/
def State.runHoldDue (s : State) (c : Ctx) : Bool :=
  decide ((s.context c).state = .active) && timerAt (s.context c).holdTimer s.refreshWindow

/-- The pause timer has reached 10 s (R111). -/
def State.pauseDue (s : State) (c : Ctx) : Bool :=
  decide ((s.context c).state = .paused) && timerAt (s.context c).pauseTimer (ms 10000)

end Sys2Proof.Machine
end

