-- ==== Sys2Proof/Machine/Line.lean ====
section
/-! DEFINITION. The events of the links' lines: FRAME_DISCARDED, FRAMING_ERROR, GAP_TIMER_EXPIRY (R170), REPLY_START, REPLY_SENT,
REPLY_DROPPED (R173), and the start bit that wakes the part (R156). -/

namespace Sys2Proof.Machine

/-- Characters on a link: nothing while RESETB is low; in DORMANT the first start bit wakes the part and the characters are
lost; otherwise the link takes them (R156, R169, log 13). -/
def State.onLine (s : State) (l : Link) (effect : State → State) : State :=
  if s.pins.resetbLow then s
  else if s.device.state = .dormant then (if s.startBitWakes l then (s.wake true).finish else s)
  else effect s

/-- FRAME_DISCARDED (R170). -/
def execFrameDiscarded (l : Link) (chars : List Byte) (s : State) : Host.Outcome State Fault Refusal :=
  .next (if chars = [] then s else s.onLine l fun s => s.receive l chars)

/-- FRAMING_ERROR (R170). -/
def execFramingError (l : Link) (s : State) : Host.Outcome State Fault Refusal :=
  .next (s.onLine l fun s => s.discardPartial l)

/-- GAP_TIMER_EXPIRY (R170). -/
def execGapTimerExpiry (l : Link) (s : State) : Host.Outcome State Fault Refusal :=
  .next (s.event (s.gapDue l) fun s => s.discardPartial l)

/-- REPLY_START: the pending reply begins on the transmit line (R173). -/
def execReplyStart (l : Link) (s : State) : Host.Outcome State Fault Refusal :=
  .next (s.event (s.link l).waiting.isSome fun s => s.setLink l (s.link l).startReply)

/-- REPLY_SENT: the reply ends, and a waiting one starts; the RESTART reset follows its reply (R158, R173). -/
def State.replySent (s : State) (l : Link) : State :=
  if (s.link l).sending.any (·.restarts) then s.resetPart .restart else s.setLink l (s.link l).endReply

/-- REPLY_SENT (R173). -/
def execReplySent (l : Link) (s : State) : Host.Outcome State Fault Refusal :=
  .next (s.event (s.link l).sending.isSome fun s => s.replySent l)

/-- REPLY_DROPPED: a start bit drops the reply that waits; a RESTART reply dropped resets the part all the same (R158,
R173). -/
def State.replyDropped (s : State) (l : Link) : State :=
  if (s.link l).dropRestarts then s.resetPart .restart else s.setLink l { s.link l with waiting := none }

/-- REPLY_DROPPED (R173). -/
def execReplyDropped (l : Link) (s : State) : Host.Outcome State Fault Refusal :=
  .next (s.event (s.link l).waiting.isSome fun s => s.replyDropped l)

/-- WAKE_START_BIT (R156, R157). -/
def execWakeStartBit (l : Link) (s : State) : Host.Outcome State Fault Refusal :=
  .next (s.event (s.startBitWakes l) fun s => s.wake true)

end Sys2Proof.Machine
end

