-- ==== Sys2Proof/Machine/Loads.lean ====
section
/-! DEFINITION. The events of the lamps and the driver channels: PHASE_TIMER_EXPIRY (R117, R123), TRAIL_TIMER_EXPIRY (R120),
LEAD_REACHED (R124), LAMP_PROVE_TEST (R125, R126), OPEN_LOAD_TEST (R137), SHORT_TRIP (R138), PWM_PERIOD_START (R135). -/

namespace Sys2Proof.Machine

/-- The threshold of the open-load test and of a lamp's proving, in milliamperes (R125, R137). -/
def openLoad : Nat := 100

/-- A channel that delivers more than this, in milliamperes, trips (R138). -/
def shortLoad : Nat := 8000

/-- PHASE_TIMER_EXPIRY (R117, R123). -/
def execPhaseTimerExpiry (n : Lamp) (s : State) : Host.Outcome State Fault Refusal :=
  .next (s.event (s.phaseDue n) fun s => s.setLamp n (s.lamp n).phaseEnd)

/-- TRAIL_TIMER_EXPIRY (R120). -/
def execTrailTimerExpiry (n : Lamp) (s : State) : Host.Outcome State Fault Refusal :=
  .next (s.event (s.trailDue n) fun s => s.setLamp n { s.lamp n with motion := .absent, trailTimer := none })

/-- LEAD_REACHED (R35, R124). -/
def execLeadReached (n : Lamp) (s : State) : Host.Outcome State Fault Refusal :=
  .next (s.event (s.leadDue n) fun s => s.push .primeTest)

/-- The result of a proving (R126). -/
def State.proved (s : State) (n : Lamp) (pass : Bool) : State :=
  let r := s.lamp n
  match r.proven, pass with
  | .failed, _ | .proven, true => s
  | .unknown, true => (s.setLamp n { r with proven := .proven }).push .primeTest
  | .unknown, false | .proven, false =>
    (s.setLamp n { r with proven := .failed }).push (.occurrence .lampOpen (.lamp n))

/-- The proving of a turn-on. A lamp whose function no channel carries makes no test, and its prove timer stops here, not at 50 ms
(DESIGN CHOICE, log 46). While two map entries name the function, the lamp is proven on the channel that carries it (R134),
although R133 does not call the function mapped then and R125 gives an unmapped lamp no test (DESIGN CHOICE, log 45). -/
def State.proveLamp (s : State) (n : Lamp) (current : Nat) : State :=
  let s1 := s.setLamp n { s.lamp n with prove := none }
  match s.carrier (lampFunc n) with
  | some c => s1.proved n (decide (openLoad ≤ (s.chan c).loadCurrent current))
  | none => s1

/-- LAMP_PROVE_TEST (R125). -/
def execLampProveTest (n : Lamp) (current : Nat) (s : State) : Host.Outcome State Fault Refusal :=
  .next (s.event (s.proveDue n) fun s => s.proveLamp n current)

/-- The open-load test of a channel; one that carries a lamp makes none of its own (R137, log 31), and its prove timer then stops
here, not at 50 ms: R137 does not say what that timer does where no test is made (DESIGN CHOICE, log 42). -/
def State.testOpenLoad (s : State) (c : Chan) (current : Nat) : State :=
  let s1 := s.setChan c { s.chan c with prove := none, armed := false }
  if !s.carriesLamp c && decide (current < openLoad) then s1.push (.occurrence .driverOpen (.chan c)) else s1

/-- OPEN_LOAD_TEST (R137). -/
def execOpenLoadTest (c : Chan) (current : Nat) (s : State) : Host.Outcome State Fault Refusal :=
  .next (s.event (s.openLoadDue c) fun s => s.testOpenLoad c current)

/-- The channel trips (R138). -/
def State.tripChan (s : State) (c : Chan) : State :=
  (s.setChan c .trip).push (.occurrence .driverShort (.chan c))

/-- SHORT_TRIP (R138). -/
def execShortTrip (c : Chan) (current : Nat) (s : State) : Host.Outcome State Fault Refusal :=
  .next (s.event (decide (shortLoad < (s.chan c).loadCurrent current)) fun s => s.tripChan c)

/-- PWM_PERIOD_START (R135). -/
def execPwmPeriodStart (c : Chan) (s : State) : Host.Outcome State Fault Refusal :=
  .next (s.event (s.periodDue c) fun s => s.setChan c (s.chan c).periodStart)

end Sys2Proof.Machine
end

