-- ==== Sys2Proof/Machine/Motions.lean ====
section
/-! DEFINITION. The motion requests: HOLD, RELEASE, MOVE, CANCEL (R3 to R11, R22). -/

namespace Sys2Proof.Machine

/-- An actuator code and a stroke code (R176). -/
def motionOfBytes (a k : Byte) : Option (Actuator × Stroke) := do some (← Actuator.ofByte a, ← Stroke.ofByte k)

/-- The slot's answer to a request for a motion; only an answer that starts one has an effect (R3, R5, R10). -/
def State.motionAnswer (s : State) (m : Result × State) : Answer :=
  if m.1 = .accepted ∨ m.1 = .clamped then m.2.finish.answer m.1 else s.answer m.1

/-- A HOLD at a slot, after checks 1 to 3 of R3 (R5, R6, R22). -/
def State.takeHold (s : State) (l : Link) (a : Actuator) (k : Stroke) : Answer :=
  let r := s.slot a
  match r.state with
  | .idle => s.motionAnswer (s.takeMotion a k none none (.holder l))
  | .waiting | .priming | .running | .holding =>
    if r.owner.isSome then s.answer .busy
    else if r.stroke = some k then (s.joinHolders a l).answer .accepted
    else (s.takeConflict a l).finish.answer .conflict
  | .settling => (s.watchLink a l).answer .busy
  | .blocked => (s.watchLink a l).answer .conflict

/-- HOLD at its owner: checks 2 and 3 of R3, then R5. -/
def holdRule (l : Link) (params : List Byte) (s : State) : Answer :=
  if s.device.state ≠ .ready then s.answer .refusedState
  else match params with
    | [a, k] =>
      match motionOfBytes a k with
      | some (a, k) =>
        if !s.motionParamsOk a k none (.holder l) then s.answer .badParam
        else s.takeHold l a k
      | none => s.answer .badParam
    | _ => s.answer .badParam

/-- HOLD (R5). -/
def execHold (l : Link) (tag : Byte) (params : List Byte) (s : State) : Host.Outcome State Fault Refusal :=
  .next (s.serve l 0x10 tag (holdPermission params) false (holdRule l params))

/-- A RELEASE at a slot (R9). -/
def State.takeRelease (s : State) (l : Link) (a : Actuator) : Answer :=
  if ((s.slot a).holders.get l).isSome then (s.holderLeaves a l .released).finish.answer .accepted
  else if ((s.slot a).watch.get l).isSome then (s.watcherLeaves a l).finish.answer .accepted
  else s.answer .accepted

/-- RELEASE at its owner (R9). -/
def releaseRule (l : Link) (params : List Byte) (s : State) : Answer :=
  if s.device.state ≠ .ready then s.answer .refusedState
  else match params with
    | [a] =>
      match Actuator.ofByte a with
      | some a => s.takeRelease l a
      | none => s.answer .badParam
    | _ => s.answer .badParam

/-- RELEASE (R9). -/
def execRelease (l : Link) (tag : Byte) (params : List Byte) (s : State) : Host.Outcome State Fault Refusal :=
  .next (s.serve l 0x11 tag (holdPermission params) false (releaseRule l params))

/-- The actuator, stroke and optional target of a MOVE (R176, log 18). -/
def moveOfBytes : List Byte → Option (Actuator × Stroke × Option Nat)
  | [a, k] => (motionOfBytes a k).map fun (a, k) => (a, k, none)
  | [a, k, t1, t0] => (motionOfBytes a k).map fun (a, k) => (a, k, some (natOfBytes [t1, t0]))
  | _ => none

/-- A MOVE at a slot, after checks 1 to 3 of R3 (R10). -/
def State.takeMove (s : State) (l : Link) (a : Actuator) (k : Stroke) (target : Option Nat) : Answer :=
  if (s.slot a).state ≠ .idle then s.answer .busy
  else s.motionAnswer (s.takeMotion a k target none (.owner (.link l)))

/-- MOVE at its owner: checks 2 and 3 of R3, then R10. -/
def moveRule (l : Link) (params : List Byte) (s : State) : Answer :=
  if s.device.state ≠ .ready then s.answer .refusedState
  else match moveOfBytes params with
    | some (a, k, target) =>
      if !s.motionParamsOk a k target (.owner (.link l)) then s.answer .badParam
      else s.takeMove l a k target
    | none => s.answer .badParam

/-- MOVE (R10). -/
def execMove (l : Link) (tag : Byte) (params : List Byte) (s : State) : Host.Outcome State Fault Refusal :=
  .next (s.serve l 0x12 tag cabOnly false (moveRule l params))

/-- A CANCEL at a slot (R11). -/
def State.takeCancel (s : State) (a : Actuator) : Answer :=
  match (s.slot a).state with
  | .idle | .settling | .blocked => s.answer .accepted
  | .waiting | .priming | .running | .holding =>
    match (s.slot a).owner with
    | some (.link _) => (s.endMotion a .cancelled).finish.answer .accepted
    | some (.ctx _) | none => s.answer .notOwner

/-- CANCEL at its owner (R11). -/
def cancelRule (params : List Byte) (s : State) : Answer :=
  if s.device.state ≠ .ready then s.answer .refusedState
  else match params with
    | [a] =>
      match Actuator.ofByte a with
      | some a => s.takeCancel a
      | none => s.answer .badParam
    | _ => s.answer .badParam

/-- CANCEL (R11). -/
def execCancel (l : Link) (tag : Byte) (params : List Byte) (s : State) : Host.Outcome State Fault Refusal :=
  .next (s.serve l 0x13 tag cabOnly false (cancelRule params))

end Sys2Proof.Machine
end

