-- ==== Sys2Proof/Machine/Powering.lean ====
section
/-! DEFINITION. Resets, startup, supply, clock, dormancy and wakes: POWER_ON_RESET, PIN_RESET, RESETB_RELEASE (R158), STARTUP_END
(R144), BATTERY_SAMPLE (R151 to R153), CLOCK_COMPARISON (R154), OWNER_LAPSE (R147), DORMANCY_TIMER_EXPIRY (R155), WAKE_IGN,
WAKE_LINE (R156), WAKE_DRIVE_END (R157). -/

namespace Sys2Proof.Machine

/-! ### Resets -/

/-- POWER_ON_RESET: where RESETB is held low, the PIN reset goes on after it (R158, R159). -/
def State.powerOn (s : State) : State :=
  if s.pins.resetbLow then (s.resetBlocks .powerOn).resetBlocks .pin else s.resetPart .powerOn

/-- POWER_ON_RESET (R158). -/
def execPowerOnReset (s : State) : Host.Outcome State Fault Refusal := .next s.powerOn

/-- RESETB goes low: the reset lasts until it is released (R158). -/
def State.pinReset (s : State) : State :=
  if s.pins.resetbLow then s else
    let r := s.resetBlocks .pin
    { r with pins := { r.pins with resetbLow := true } }

/-- PIN_RESET (R158). -/
def execPinReset (s : State) : Host.Outcome State Fault Refusal := .next s.pinReset

/-- RESETB is released: the reset ends, the blocks leave it at their reset values, and the straps are latched (R158). -/
def State.resetbRelease (s : State) : State :=
  if s.pins.resetbLow then ({ s with pins := { s.pins with resetbLow := false } }).latchRoles else s

/-- RESETB_RELEASE (R158). -/
def execResetbRelease (s : State) : Host.Outcome State Fault Refusal := .next s.resetbRelease

/-! ### Startup -/

/-- The device state at the end of the startup interval (R144). -/
def State.stateAfterStartup (s : State) : DeviceState :=
  if s.device.prior = some .stopped then .stopped
  else if s.device.configured then (if s.asserted .estop then .stopped else .ready)
  else .unconfigured

/-- The ESTOP flag is settled against the input (R145). -/
def State.settleEstop (s : State) : State :=
  if s.asserted .estop && !s.device.estopFlag then
    ({ s with device := { s.device with estopFlag := true } }).push (.occurrence .estop .none)
  else if s.deasserted .estop && s.device.estopFlag then
    ({ s with device := { s.device with estopFlag := false } }).push (.conditionEnd .estop .none)
  else s

/-- Both hatches' positions are judged afresh at the end of the interval (R50). -/
def State.settleHatches (s : State) : State := s.pushAll (Hatch.all.map .hatchMoved)

/-- The end of the startup interval at every block (R46, R47, R50, R77, R144, R145). The spec gives no order among what the
blocks post at that moment; height, tilt, pressure, ESTOP and then the hatches post, which is the order in which new entries are
appended (DESIGN CHOICE, log 40). -/
def State.endStartup (s : State) : State :=
  let s1 := (Sensor.all.foldl State.settleCapture s).settleEstop
  ({ s1 with
    permit := { s1.permit with standstill := true, lastRise := none, quiet := some 0 }
    device := { s1.device with
      state := s.stateAfterStartup, startup := none, prior := none, dormancy := some 0 } }).settleHatches

/-- STARTUP_END (R144). -/
def execStartupEnd (s : State) : Host.Outcome State Fault Refusal := .next (s.event s.startupDue State.endStartup)

/-! ### Supply and clock -/

/-- The zone a full window gives for the first time (R152). -/
def firstZone (average : Nat) : Zone := if 22000 ≤ average then .normal else if 19500 ≤ average then .sag else .low

/-- The zone derived again at a sample (R152). -/
def nextZone (z : Zone) (average : Nat) : Zone :=
  match z with
  | .normal => if average < 19500 then .low else if average < 22000 then .sag else .normal
  | .sag => if 22500 ≤ average then .normal else if average < 19500 then .low else .sag
  | .low => if 22500 ≤ average then .normal else if 20000 ≤ average then .sag else .low

/-- What a definition or a change of the zone posts. The first filling posts the end of LOW_SUPPLY unless the zone is LOW;
whether it posts the occurrence when LOW is a free choice where no entry is present (R152, log 21). -/
def State.zonePosts (s : State) (z : Zone) : List Arrival :=
  if s.supply.defined then
    if z = s.supply.zone then []
    else if z = .low then [.occurrence .lowSupply .none]
    else if s.supply.zone = .low then [.conditionEnd .lowSupply .none]
    else []
  else if z ≠ .low then [.conditionEnd .lowSupply .none]
  else if Config.firstLowPosts && !s.hasEntry .lowSupply .none then [.occurrence .lowSupply .none]
  else []

/-- The zone follows a full window; each change of it brings a round (R28, R152). -/
def State.takeZone (s : State) (z : Zone) : State :=
  ({ s with supply := { s.supply with zone := z, defined := true } }).pushAll
    (s.zonePosts z ++ if z = s.supply.zone then [] else [Arrival.round])

/-- A battery sample, in millivolts (R151, R152, R153). -/
def State.takeSample (s : State) (mv : Nat) : State :=
  let s1 := { s with supply := { s.supply with window := pushWindow 8 s.supply.window mv, sampleTimer := some 0 } }
  if s1.supply.window.length < 8 then s1
  else if s1.batteryAverage < 16000 then s1.resetPart .brownOut
  else s1.takeZone (if s.supply.defined then nextZone s.supply.zone s1.batteryAverage else firstZone s1.batteryAverage)

/-- BATTERY_SAMPLE (R151). -/
def execBatterySample (mv : BitVec 16) (s : State) : Host.Outcome State Fault Refusal :=
  .next (s.event s.sampleDue fun s => s.takeSample mv.toNat)

/-- The count departs from its nominal value by more than 25 %, fast or slow (R154). -/
def clockBad (count : Nat) : Bool :=
  decide (Config.nominalCount < 4 * ((count - Config.nominalCount) + (Config.nominalCount - count)))

/-- A comparison of the clock monitor (R154). -/
def State.compareClock (s : State) (count : Nat) : State :=
  if clockBad count then s.resetPart .clock else { s with supply := { s.supply with clockTimer := some 0 } }

/-- CLOCK_COMPARISON (R154). -/
def execClockComparison (count : Nat) (s : State) : Host.Outcome State Fault Refusal :=
  .next (s.event s.clockDue fun s => s.compareClock count)

/-! ### Configuration owner, dormancy, wakes -/

/-- The owner has lapsed (R147). -/
def State.lapseOwner (s : State) : State :=
  { s with device := { s.device with state := .unconfigured, owner := none, ownerIdle := none } }

/-- OWNER_LAPSE (R147). -/
def execOwnerLapse (s : State) : Host.Outcome State Fault Refusal := .next (s.event s.ownerDue State.lapseOwner)

/-- DORMANCY_TIMER_EXPIRY: the dormancy test, which follows every event, is all it brings (R155). -/
def execDormancyTimerExpiry (s : State) : Host.Outcome State Fault Refusal := .next (s.event s.dormancyDue id)

/-- WAKE_IGN (R156, R157). -/
def execWakeIgn (s : State) : Host.Outcome State Fault Refusal := .next (s.event s.ignDue fun s => s.wake true)

/-- WAKE_LINE: a wake by the line itself does not drive it (R156, R157). -/
def execWakeLine (s : State) : Host.Outcome State Fault Refusal :=
  .next (s.event (decide (s.device.state = .dormant)) fun s => s.wake false)

/-- WAKE_DRIVE_END (R157). -/
def execWakeDriveEnd (s : State) : Host.Outcome State Fault Refusal :=
  .next (s.event s.wakeDriveDue fun s => { s with device := { s.device with wakeDrive := none } })

end Sys2Proof.Machine
end

