-- ==== Sys2Proof/Machine/Progress.lean ====
section
/-! DEFINITION. The timer events of the slots and the arbiter: HOLDER_LAPSE (R8), WATCH_LAPSE (R22), RUN_LIMIT_EXPIRY (R13),
HOLD_TIMER_EXPIRY (R15), RUN_DOWN_END (R20), PROFILE_UPDATE (R82), OVERLOAD_EXPIRY (R95), PRIME_LIMIT (R38),
STUCK_WATCH_EXPIRY (R41); and of the sequence contexts: STEP_TIMER_EXPIRY (R106, R107), SEQUENCE_LAPSE and
PAUSE_TIMER_EXPIRY (R111). -/

namespace Sys2Proof.Machine

/-- A link lapses as a holder; one that an end taken first has moved to the watch set is taken as a watched link (R8, R19,
R90). -/
def State.lapseHolder (s : State) (a : Actuator) (l : Link) : State :=
  if s.holderDue a l then s.holderLeaves a l .lapsed else s.watcherLeaves a l

/-- HOLDER_LAPSE (R8, R90). -/
def execHolderLapse (a : Actuator) (l : Link) (s : State) : Host.Outcome State Fault Refusal :=
  .next (s.event (s.holderDue a l || s.watchDue a l) fun s => s.lapseHolder a l)

/-- WATCH_LAPSE (R22). -/
def execWatchLapse (a : Actuator) (l : Link) (s : State) : Host.Outcome State Fault Refusal :=
  .next (s.event (s.watchDue a l) fun s => s.watcherLeaves a l)

/-- RUN_LIMIT_EXPIRY (R13). -/
def execRunLimitExpiry (a : Actuator) (s : State) : Host.Outcome State Fault Refusal :=
  .next (s.event (s.runLimitDue a) fun s => (s.endMotion a .timeout).push (.occurrence .runTimeout (.actuator a)))

/-- HOLD_TIMER_EXPIRY (R15). -/
def execHoldTimerExpiry (a : Actuator) (s : State) : Host.Outcome State Fault Refusal :=
  .next (s.event (s.holdDue a) fun s => s.endMotion a .gateTimeout)

/-- RUN_DOWN_END (R20). The outcome is the one SETTLING recorded (R21). -/
def execRunDownEnd (a : Actuator) (s : State) : Host.Outcome State Fault Refusal :=
  .next (s.event (s.runDownDue a) fun s => s.complete a (s.slot a).outcome)

/-- A profile update: the timer restarts, and the update is the one of RUNNING or of the ramp-out (R82, R84, R89). -/
def State.profileUpdate (s : State) : State :=
  let s1 := { s with profile := { s.profile with update := some 0 } }
  match (s.slot .lift).state with
  | .running => s1.updateRunning
  | .settling => s1.updateSettling
  | .idle | .waiting | .priming | .holding | .blocked => s1

/-- PROFILE_UPDATE (R82). -/
def execProfileUpdate (s : State) : Host.Outcome State Fault Refusal :=
  .next (s.event s.updateDue State.profileUpdate)

/-- OVERLOAD_EXPIRY (R95). -/
def execOverloadExpiry (s : State) : Host.Outcome State Fault Refusal :=
  .next (s.event s.overloadDue fun s => (s.endMotion .lift .overload).push (.occurrence .overload (.actuator .lift)))

/-- The prime timer of a slot reaches the prime limit (R38). -/
def State.reachPrimeLimit (s : State) (a : Actuator) : State :=
  if s.asserted .pumprun then s.setPrime a .passed else s.failPriming a

/-- PRIME_LIMIT (R38). -/
def execPrimeLimit (a : Actuator) (s : State) : Host.Outcome State Fault Refusal :=
  .next (s.event (s.primeDue a) fun s => s.reachPrimeLimit a)

/-- The stuck watch reaches 500 ms (R41). -/
def State.stuckExpired (s : State) : State :=
  if s.stuck.flag then s
  else ({ s with stuck := { s.stuck with flag := true } }).push (.occurrence .pumpStuck .none)

/-- STUCK_WATCH_EXPIRY (R41). -/
def execStuckWatchExpiry (s : State) : Host.Outcome State Fault Refusal :=
  .next (s.event s.stuckDue State.stuckExpired)

/-- STEP_TIMER_EXPIRY (R106, R107). -/
def execStepTimerExpiry (c : Ctx) (s : State) : Host.Outcome State Fault Refusal :=
  .next (s.event (s.stepDue c) fun s => s.stepTimeout c)

/-- SEQUENCE_LAPSE (R111). -/
def execSequenceLapse (c : Ctx) (s : State) : Host.Outcome State Fault Refusal :=
  .next (s.event (s.runHoldDue c) fun s => s.lapseRun c)

/-- PAUSE_TIMER_EXPIRY (R111). -/
def execPauseTimerExpiry (c : Ctx) (s : State) : Host.Outcome State Fault Refusal :=
  .next (s.event (s.pauseDue c) fun s => s.endRun c .lapsed)

end Sys2Proof.Machine
end

