-- ==== Sys2Proof/Machine/Status.lean ====
section
/-! DEFINITION. The data of the replies that read the part: the STATUS record, the FAULTS list and the reset-cause set (R159,
R177, R178, R183). -/

namespace Sys2Proof.Machine

/-! ### Slots -/

/-- The link flags of a slot: its holders while a motion is kept alive, its watch set in SETTLING and BLOCKED (R177). -/
def Slot.linkFlags (r : Slot) : List Bool :=
  match r.state with
  | .idle => List.replicate 4 false
  | .waiting | .priming | .running | .holding => r.holders.cells.map (·.isSome)
  | .settling | .blocked => r.watch.cells.map (·.isSome)

/-- The context flags of a slot: the context named as report-to (R177). -/
def Slot.contextFlags (r : Slot) : List Bool := [decide (r.reportTo = some 0), decide (r.reportTo = some 1)]

def Slot.strokeByte (r : Slot) : Byte :=
  match r.stroke with
  | some k => byte k.ix.val
  | none => absentByte

def Slot.ownerByte (r : Slot) : Byte :=
  match r.owner with
  | some (.link l) => byte l.val
  | some (.ctx c) => byte (0x10 + c.val)
  | none => absentByte

/-- The position of a slot's actuator (R74, R177). -/
def State.positionOf (s : State) : Actuator → Nat
  | .lift => (s.capture .height).reported
  | .tilt => (s.capture .tilt).reported
  | .khatch => (s.hatchPos .kerbside).code
  | .ohatch => (s.hatchPos .offside).code

/-- The seven bytes of a slot. -/
def State.slotBytes (s : State) (a : Actuator) : List Byte :=
  let r := s.slot a
  [byte r.state.code, r.strokeByte, byte (flagsToNat (r.linkFlags ++ r.contextFlags)), r.ownerByte]
    ++ bytesOfNat 2 (s.positionOf a) ++ [byte r.outcome.code]

/-! ### The STATUS record -/

/-- A slot code, or 0xFF (R183). -/
def slotByte (a : Option Actuator) : Byte :=
  match a with
  | some a => byte a.ix.val
  | none => absentByte

/-- The call list, front first, in four places. -/
def State.callListBytes (s : State) : List Byte := (List.finRange 4).map fun i => slotByte s.arbiter.callList[i.val]?

/-- The three bytes of a context. -/
def Context.bytes (r : Context) : List Byte :=
  [byte (r.state.code + 16 * r.result.code), byteOfIndex r.sequence, byteOfIndex r.step]

/-- The zone STATUS reports: LOW while it is undefined (R177). -/
def State.shownZone (s : State) : Zone := if s.supply.defined then s.supply.zone else .low

/-- The STATUS record, 53 bytes (R177, R183). -/
def State.statusRecord (s : State) : List Byte :=
  [byte s.device.state.code, byte s.shownZone.code] ++ bytesOfNat 2 s.batteryAverage ++ bytesOfNat 3 s.permit.conds.toNat
    ++ Actuator.all.flatMap s.slotBytes
    ++ [slotByte (s.grant .liftCircuit), slotByte (s.grant .hatchCircuit), slotByte s.arbiter.pumpOwner]
    ++ s.callListBytes ++ (s.context 0).bytes ++ (s.context 1).bytes
    ++ [byte (flagsToNat (s.lamps.cells.map LampRec.lit)),
        byte (flagsToNat (s.lamps.cells.map fun r => decide (r.proven = .failed))),
        byte (s.faults.entries.length + 128 * s.faults.full.toNat)]
    ++ bytesOfNat 2 (s.capture .pressure).reported

/-! ### FAULTS and RESET_CAUSE -/

/-- The four bytes of an entry (R183). -/
def FaultEntry.bytes (e : FaultEntry) : List Byte :=
  [byte e.kind.code, byte e.subject.code, byte (flagsToNat [e.active, e.acked]), byte e.count]

/-- The FAULTS reply data from a start index (R178, R183). -/
def State.faultsData (s : State) (start : Nat) : List Byte :=
  [byte s.faults.entries.length, byte start] ++ ((s.faults.entries.drop start).take 8).flatMap FaultEntry.bytes

/-- The RESET_CAUSE reply data (R159, R183). -/
def LinkRec.causeData (r : LinkRec) : List Byte := [byteOfFlags r.causes]

end Sys2Proof.Machine
end

