-- ==== Sys2Proof/Machine/Reading.lean ====
section
/-! DEFINITION. The requests that read the part, and the unknown request: STATUS (R177), FAULTS (R178), RESET_CAUSE (R159),
UNKNOWN_REQUEST (R172). -/

namespace Sys2Proof.Machine

/-- STATUS (R177). -/
def statusRule (params : List Byte) (s : State) : Answer :=
  if params = [] then s.answerData s.statusRecord else s.answer .badParam

/-- STATUS (R177). -/
def execStatus (l : Link) (tag : Byte) (params : List Byte) (s : State) : Host.Outcome State Fault Refusal :=
  .next (s.serve l 0x01 tag everyRole true (statusRule params))

/-- FAULTS (R178). -/
def faultsRule (params : List Byte) (s : State) : Answer :=
  match params with
  | [start] => if start.toNat ≤ 15 then s.answerData (s.faultsData start.toNat) else s.answer .badParam
  | _ => s.answer .badParam

/-- FAULTS (R178). -/
def execFaults (l : Link) (tag : Byte) (params : List Byte) (s : State) : Host.Outcome State Fault Refusal :=
  .next (s.serve l 0x02 tag everyRole false (faultsRule params))

/-- RESET_CAUSE: the link's set as it stands, and then that set alone is emptied (R159). -/
def resetCauseRule (l : Link) (params : List Byte) (s : State) : Answer :=
  if params = [] then (s.setLink l { s.link l with causes := noCauses }).answerData (s.link l).causeData
  else s.answer .badParam

/-- RESET_CAUSE (R159). -/
def execResetCause (l : Link) (tag : Byte) (params : List Byte) (s : State) : Host.Outcome State Fault Refusal :=
  .next (s.serve l 0x03 tag everyRole true (resetCauseRule l params))

/-- UNKNOWN_REQUEST: the answer comes before the role and the state are looked at (R172). -/
def execUnknownRequest (l : Link) (code tag : Byte) (_params : List Byte) (s : State) :
    Host.Outcome State Fault Refusal :=
  .next (s.serve l code tag everyRole true fun s => s.answer .unknownRequest)

end Sys2Proof.Machine
end

