-- ==== Sys2Proof/Machine/Runs.lean ====
section
/-! DEFINITION. The sequence requests SEQ_START, SEQ_HOLD and SEQ_CANCEL (R100, R101, R110, R112). -/

namespace Sys2Proof.Machine

/-- A number one parameter byte carries, below `n`. -/
def oneIndex (n : Nat) : List Byte → Option (Fin n)
  | [b] => indexOfByte n b
  | _ => none

/-- The lowest-numbered IDLE context (R101). -/
def State.idleContext (s : State) : Option Ctx :=
  (List.finRange 2).find? fun c => decide ((s.context c).state = .idle)

/-- A SEQ_START of a present entry (R101). -/
def State.takeSeqStart (s : State) (l : Link) (n : Fin 8) (first : Fin 32) : Answer :=
  match s.idleContext with
  | some c => (s.startRun c n l first).finish.answerData [byte c.val]
  | none => s.answer .busy

/-- SEQ_START at the Sequence Unit (R100, R101). -/
def seqStartRule (l : Link) (params : List Byte) (s : State) : Answer :=
  if s.device.state ≠ .ready then s.answer .refusedState
  else match oneIndex 8 params with
    | some n =>
      match (s.tables.entries.get n).first with
      | some first => s.takeSeqStart l n first
      | none => s.answer .badParam
    | none => s.answer .badParam

/-- SEQ_START (R101). -/
def execSeqStart (l : Link) (tag : Byte) (params : List Byte) (s : State) : Host.Outcome State Fault Refusal :=
  .next (s.serve l 0x20 tag cabRear false (seqStartRule l params))

/-- A SEQ_HOLD from the owner of a run (R110). -/
def State.takeSeqHold (s : State) (c : Ctx) : Answer :=
  let r := s.context c
  match r.state with
  | .paused => (s.resumeRun c).finish.answer .accepted
  | .active => if r.held then (s.setContext c { r with holdTimer := some 0 }).answer .accepted else s.answer .accepted
  | .idle => s.answer .notOwner

/-- SEQ_HOLD at the Sequence Unit (R100, R110). -/
def seqHoldRule (l : Link) (params : List Byte) (s : State) : Answer :=
  if s.device.state ≠ .ready then s.answer .refusedState
  else match oneIndex 2 params with
    | some c => if (s.context c).owner = some l then s.takeSeqHold c else s.answer .notOwner
    | none => s.answer .badParam

/-- SEQ_HOLD (R110). -/
def execSeqHold (l : Link) (tag : Byte) (params : List Byte) (s : State) : Host.Outcome State Fault Refusal :=
  .next (s.serve l 0x21 tag cabRear false (seqHoldRule l params))

/-- SEQ_CANCEL of a context (R112). -/
def State.takeSeqCancel (s : State) (l : Link) (c : Ctx) : Answer :=
  let r := s.context c
  if r.state = .idle then s.answer .accepted
  else if r.owner = some l ∨ (s.link l).role = .cab then (s.cancelRun c).finish.answer .accepted
  else s.answer .notOwner

/-- SEQ_CANCEL at the Sequence Unit (R100, R112). -/
def seqCancelRule (l : Link) (params : List Byte) (s : State) : Answer :=
  if s.device.state ≠ .ready then s.answer .refusedState
  else match oneIndex 2 params with
    | some c => s.takeSeqCancel l c
    | none => s.answer .badParam

/-- SEQ_CANCEL (R112). -/
def execSeqCancel (l : Link) (tag : Byte) (params : List Byte) (s : State) : Host.Outcome State Fault Refusal :=
  .next (s.serve l 0x22 tag cabRear false (seqCancelRule l params))

end Sys2Proof.Machine
end

