-- ==== Sys2Proof/Machine/Sensing.lean ====
section
/-! DEFINITION. The events of the pins and of the measurement: PIN_LEVEL_CHANGE, DEBOUNCE_SETTLE (R44), SPEED_EDGE (R45, R47),
QUIET_TIMER_EXPIRY (R47), CAPTURE_RISING_EDGE, CAPTURE_FALLING_EDGE (R63), LOST_EXPIRY (R72). -/

namespace Sys2Proof.Machine

/-- The outside changes a pin; the pins follow it whatever the part does (R43, R174). A digital input of a part in reset
changes its level, with its timer held at the reset's end. R174 reads a strap high or low and names no bias: a strap that
nothing drives reads a free level (DESIGN CHOICE, log 9). -/
def State.changePin (s : State) (p : Pin) (d : Drive) : State :=
  match p with
  | .strap0 => { s with pins := { s.pins with strap0 := pinLevel d .none s.freeLevel }, draws := s.draws + 1 }
  | .strap1 => { s with pins := { s.pins with strap1 := pinLevel d .none s.freeLevel }, draws := s.draws + 1 }
  | .input i => s.drivePin i d

/-- PIN_LEVEL_CHANGE (R43, R44). -/
def execPinLevelChange (p : Pin) (d : Drive) (s : State) : Host.Outcome State Fault Refusal := .next (s.changePin p d)

/-- The debounced level takes the pin level, and the stability timer stops (R44). -/
def State.settleInput (s : State) (i : Input) : State :=
  s.setInput i { s.input i with debounced := some (s.input i).level, timer := none }

/-- The other end switch of the hatch settles at the same moment where its timer, too, has reached 20 ms: the position then
passes directly from the one both levels gave before to the one both give now (R49, R92; DEDUCED, log 41). -/
def State.settleOther (s : State) (i : Input) : State :=
  match otherSwitch i with
  | some j => if s.debounceDue j then s.settleInput j else s
  | none => s

/-- The debounced level takes the pin level, with that of the hatch's other end switch where both settle at one moment; a change
of the input's asserted state reaches its readers (R44, R92). -/
def State.debounced (s : State) (i : Input) : State := ((s.settleOther i).settleInput i).inputChanged i

/-- DEBOUNCE_SETTLE (R44). -/
def execDebounceSettle (i : Input) (s : State) : Host.Outcome State Fault Refusal :=
  .next (s.event (s.debounceDue i) fun s => s.debounced i)

/-- A rising edge at the standstill tracker: within 250 ms of the last one, STANDSTILL becomes false (R47). -/
def Permit.risingEdge (p : Permit) : Permit :=
  { p with
    standstill := p.standstill && !p.lastRise.any fun t => decide (t < ms 250)
    lastRise := some 0
    quiet := some 0 }

/-- A falling edge at the standstill tracker (R47). -/
def Permit.fallingEdge (p : Permit) : Permit := { p with quiet := some 0 }

/-- The standstill tracker takes an edge, but in STARTUP and DORMANT (R46, R47). -/
def State.trackEdge (s : State) (rising : Bool) : State :=
  if s.awake then { s with permit := if rising then s.permit.risingEdge else s.permit.fallingEdge } else s

/-- The glitch filter takes the SPEED level after polarity: the starting level gives no edge, any other is one (R45). -/
def State.takeSpeed (s : State) : State :=
  let r := s.input .speed
  let level := s.sensed .speed r.level
  let s1 := s.setInput .speed { r with debounced := some level, timer := none }
  if r.debounced.isSome then s1.trackEdge level else s1

/-- SPEED_EDGE (R45, R47). -/
def execSpeedEdge (s : State) : Host.Outcome State Fault Refusal := .next (s.event s.speedDue State.takeSpeed)

/-- The quiet timer has reached 2 s (R47, log 32). -/
def State.takeQuiet (s : State) : State :=
  { s with permit := { s.permit with standstill := true, lastRise := none, quiet := none } }

/-- QUIET_TIMER_EXPIRY (R47). -/
def execQuietTimerExpiry (s : State) : Host.Outcome State Fault Refusal := .next (s.event s.quietDue State.takeQuiet)

/-- The capture channels take edges, but in DORMANT (R78). -/
def State.takesEdges (s : State) : Bool := decide (s.device.state ≠ .dormant)

/-- CAPTURE_RISING_EDGE (R63). -/
def execCaptureRisingEdge (m : Sensor) (s : State) : Host.Outcome State Fault Refusal :=
  .next (s.event s.takesEdges fun s => s.risingEdge m)

/-- CAPTURE_FALLING_EDGE (R63). -/
def execCaptureFallingEdge (m : Sensor) (s : State) : Host.Outcome State Fault Refusal :=
  .next (s.event s.takesEdges fun s => s.fallingEdge m)

/-- LOST_EXPIRY (R72). -/
def execLostExpiry (m : Sensor) (s : State) : Host.Outcome State Fault Refusal :=
  .next (s.event (s.lostDue m) fun s => s.loseSensor m)

end Sys2Proof.Machine
end

