-- ==== Sys2Proof/Machine/Stopping.lean ====
section
/-! DEFINITION. The requests at the Device State Controller and the Fault Table: STOP_ALL (R148), RESUME (R150), RESTART (R158),
ACK and ACK ALL (R164). -/

namespace Sys2Proof.Machine

/-- STOP_ALL at its owner (R148). -/
def stopAllRule (params : List Byte) (s : State) : Answer :=
  if !s.awake then s.answer .refusedState
  else if params ≠ [] then s.answer .badParam
  else if s.device.state = .ready then s.enterStopped.finish.answer .accepted
  else s.answer .accepted

/-- STOP_ALL (R148). -/
def execStopAll (l : Link) (tag : Byte) (params : List Byte) (s : State) : Host.Outcome State Fault Refusal :=
  .next (s.serve l 0x40 tag everyRole false (stopAllRule params))

/-- RESUME at its owner (R150). -/
def resumeRule (params : List Byte) (s : State) : Answer :=
  match s.device.state with
  | .startup | .unconfigured | .config | .dormant => s.answer .refusedState
  | .ready => if params ≠ [] then s.answer .badParam else s.answer .accepted
  | .stopped =>
    if params ≠ [] then s.answer .badParam
    else if s.deasserted .estop && s.cond .standstill then (s.setDeviceState .ready).finish.answer .accepted
    else s.answer .blocked

/-- RESUME (R150). -/
def execResume (l : Link) (tag : Byte) (params : List Byte) (s : State) : Host.Outcome State Fault Refusal :=
  .next (s.serve l 0x41 tag cabRearService false (resumeRule params))

/-- RESTART at its owner: accepted, with the reset to follow the reply (R158). -/
def restartRule (params : List Byte) (s : State) : Answer :=
  if params ≠ [] then s.answer .badParam else ⟨.accepted, [], s, true⟩

/-- RESTART (R158). -/
def execRestart (l : Link) (tag : Byte) (params : List Byte) (s : State) : Host.Outcome State Fault Refusal :=
  .next (s.serve l 0x5F tag serviceOnly false (restartRule params))

/-- The kind and subject an ACK names (R164, R176). -/
def ackOfBytes : List Byte → Option (FaultKind × Subject)
  | [k, b] => do
    let kind ← kindOfByte k
    some (kind, ← subjectOfByte kind b)
  | _ => none

/-- ACK at the Fault Table (R164). -/
def ackRule (params : List Byte) (s : State) : Answer :=
  if !s.awake then s.answer .refusedState
  else match ackOfBytes params with
    | some (k, subject) => (s.acknowledge k subject).finish.answer .accepted
    | none => s.answer .badParam

/-- ACK (R164). -/
def execAck (l : Link) (tag : Byte) (params : List Byte) (s : State) : Host.Outcome State Fault Refusal :=
  .next (s.serve l 0x42 tag cabService false (ackRule params))

/-- ACK ALL at the Fault Table (R164). -/
def ackAllRule (s : State) : Answer :=
  if !s.awake then s.answer .refusedState else s.acknowledgeAll.finish.answer .accepted

/-- ACK_ALL (R164). -/
def execAckAll (l : Link) (tag : Byte) (s : State) : Host.Outcome State Fault Refusal :=
  .next (s.serve l 0x42 tag cabService false ackAllRule)

end Sys2Proof.Machine
end

