-- ==== Sys2Proof/Machine/Switching.lean ====
section
/-! DEFINITION. The requests that switch lamps and auxiliary outputs: LAMP SET, LAMP CLEAR (R122) and OUTPUT (R140). -/

namespace Sys2Proof.Machine

/-- LAMP is served in UNCONFIGURED, READY and STOPPED (R122). -/
def State.servesLamps (s : State) : Bool :=
  match s.device.state with
  | .unconfigured | .ready | .stopped => true
  | .startup | .config | .dormant => false

/-- What a LAMP SET carries: lamp, burst count, start phase and an optional pattern. -/
structure LampOrder where
  lamp : Lamp
  bursts : Nat
  startOn : Bool
  pattern : Option Pattern
  deriving DecidableEq, Repr

/-- The lamp, burst count and start phase of a LAMP SET, with the pattern given (R122, R176). -/
def lampOrderOf (n burst start : Byte) (pattern : Option Pattern) : Option LampOrder := do
  let lamp ← indexOfByte 4 n
  let startOn ← boolOfByte start
  if burst.toNat ≤ 15 then some ⟨lamp, burst.toNat, startOn, pattern⟩ else none

/-- The parameters of a LAMP SET (R176). -/
def lampOrderOfBytes : List Byte → Option LampOrder
  | [n, action, burst, start] => if action = 1 then lampOrderOf n burst start none else none
  | [n, action, burst, start, on, off] =>
    if action = 1 then lampOrderOf n burst start (some ⟨on.toNat, off.toNat⟩) else none
  | _ => none

/-- The pattern a LAMP SET uses: the one given, or the lamp's manual pattern at that moment (R122). -/
def State.orderPattern (s : State) (o : LampOrder) : Pattern := o.pattern.getD (s.lampCfg o.lamp).manual

/-- The pattern is steady on: a non-zero on-time with an off-time of 0. R117's row gives on-times of 6 to 255; one of 1 to 5,
which a LAMP SET clamps to 6 only after check 3 of R122, counts as steady on at that check too (DESIGN CHOICE, log 37). -/
def Pattern.steadyOn (p : Pattern) : Bool := decide (p.on ≠ 0) && decide (p.off = 0)

/-- A LAMP CLEAR (R122). -/
def State.clearLamp (s : State) (n : Lamp) : State := s.setLamp n (s.lamp n).clearManual

/-- A LAMP SET that passes its checks (R122). -/
def State.setLampOrder (s : State) (o : LampOrder) : Answer :=
  let p := s.orderPattern o
  if p.on = 0 then (s.clearLamp o.lamp).finish.answer .accepted
  else
    (s.setLamp o.lamp ((s.lamp o.lamp).setManual (s.lampCfg o.lamp) ⟨⟨clampOn p.on, p.off⟩, o.bursts, o.startOn⟩)).finish.answer
      (if p.on < 6 then .clamped else .accepted)

/-- LAMP SET at the Lamp Controller (R122). -/
def lampSetRule (params : List Byte) (s : State) : Answer :=
  if !s.servesLamps then s.answer .refusedState
  else match lampOrderOfBytes params with
    | some o =>
      if decide (0 < o.bursts) && (s.orderPattern o).steadyOn then s.answer .badParam
      else if !s.mapped (lampFunc o.lamp) then s.answer .notConfigured
      else s.setLampOrder o
    | none => s.answer .badParam

/-- LAMP_SET (R122). -/
def execLampSet (l : Link) (tag : Byte) (params : List Byte) (s : State) : Host.Outcome State Fault Refusal :=
  .next (s.serve l 0x30 tag cabRearKerb false (lampSetRule params))

/-- The lamp a LAMP CLEAR names (R176). -/
def clearedLamp : List Byte → Option Lamp
  | [n, action] => if action = 0 then indexOfByte 4 n else none
  | _ => none

/-- LAMP CLEAR at the Lamp Controller (R122). -/
def lampClearRule (params : List Byte) (s : State) : Answer :=
  if !s.servesLamps then s.answer .refusedState
  else match clearedLamp params with
    | some n => (s.clearLamp n).finish.answer .accepted
    | none => s.answer .badParam

/-- LAMP_CLEAR (R122). -/
def execLampClear (l : Link) (tag : Byte) (params : List Byte) (s : State) : Host.Outcome State Fault Refusal :=
  .next (s.serve l 0x30 tag cabRearKerb false (lampClearRule params))

/-- The AUX function and the action of an OUTPUT (R140, R176). -/
def outputOfBytes : List Byte → Option (Func × Bool)
  | [f, action] =>
    if f = 10 then (boolOfByte action).map fun on => (.aux0, on)
    else if f = 11 then (boolOfByte action).map fun on => (.aux1, on)
    else none
  | _ => none

/-- OUTPUT at the Output Driver Bank (R140). -/
def outputRule (params : List Byte) (s : State) : Answer :=
  if !s.awake then s.answer .refusedState
  else match outputOfBytes params with
    | some (f, on) =>
      if on && !s.mapped f then s.answer .notConfigured
      else (s.setRequest f (.ofBool on)).finish.answer .accepted
    | none => s.answer .badParam

/-- OUTPUT (R140). -/
def execOutput (l : Link) (tag : Byte) (params : List Byte) (s : State) : Host.Outcome State Fault Refusal :=
  .next (s.serve l 0x31 tag cabService false (outputRule params))

end Sys2Proof.Machine
end

