-- ==== Sys2Proof/Machine/Dispatch.lean ====
section
/-! DEFINITION. Every command's meaning, one arm per constructor of Instr. -/

namespace Sys2Proof.Machine

def exec (i : Instr) (s : State) : Host.Outcome State Fault Refusal :=
  match i with
  | .status l tag params => Sys2Proof.Machine.execStatus l tag params s
  | .faults l tag params => Sys2Proof.Machine.execFaults l tag params s
  | .resetCause l tag params => Sys2Proof.Machine.execResetCause l tag params s
  | .hold l tag params => Sys2Proof.Machine.execHold l tag params s
  | .release l tag params => Sys2Proof.Machine.execRelease l tag params s
  | .move l tag params => Sys2Proof.Machine.execMove l tag params s
  | .cancel l tag params => Sys2Proof.Machine.execCancel l tag params s
  | .seqStart l tag params => Sys2Proof.Machine.execSeqStart l tag params s
  | .seqHold l tag params => Sys2Proof.Machine.execSeqHold l tag params s
  | .seqCancel l tag params => Sys2Proof.Machine.execSeqCancel l tag params s
  | .lampSet l tag params => Sys2Proof.Machine.execLampSet l tag params s
  | .lampClear l tag params => Sys2Proof.Machine.execLampClear l tag params s
  | .output l tag params => Sys2Proof.Machine.execOutput l tag params s
  | .stopAll l tag params => Sys2Proof.Machine.execStopAll l tag params s
  | .resume l tag params => Sys2Proof.Machine.execResume l tag params s
  | .ack l tag params => Sys2Proof.Machine.execAck l tag params s
  | .ackAll l tag => Sys2Proof.Machine.execAckAll l tag s
  | .configEnter l tag params => Sys2Proof.Machine.execConfigEnter l tag params s
  | .configWrite l tag params => Sys2Proof.Machine.execConfigWrite l tag params s
  | .configRead l tag params => Sys2Proof.Machine.execConfigRead l tag params s
  | .configCommit l tag params => Sys2Proof.Machine.execConfigCommit l tag params s
  | .restart l tag params => Sys2Proof.Machine.execRestart l tag params s
  | .unknownRequest l code tag params => Sys2Proof.Machine.execUnknownRequest l code tag params s
  | .frameDiscarded l chars => Sys2Proof.Machine.execFrameDiscarded l chars s
  | .framingError l => Sys2Proof.Machine.execFramingError l s
  | .gapTimerExpiry l => Sys2Proof.Machine.execGapTimerExpiry l s
  | .replySent l => Sys2Proof.Machine.execReplySent l s
  | .replyDropped l => Sys2Proof.Machine.execReplyDropped l s
  | .powerOnReset => Sys2Proof.Machine.execPowerOnReset s
  | .pinReset => Sys2Proof.Machine.execPinReset s
  | .holderLapse a l => Sys2Proof.Machine.execHolderLapse a l s
  | .watchLapse a l => Sys2Proof.Machine.execWatchLapse a l s
  | .runLimitExpiry a => Sys2Proof.Machine.execRunLimitExpiry a s
  | .holdTimerExpiry a => Sys2Proof.Machine.execHoldTimerExpiry a s
  | .runDownEnd a => Sys2Proof.Machine.execRunDownEnd a s
  | .profileUpdate => Sys2Proof.Machine.execProfileUpdate s
  | .overloadExpiry => Sys2Proof.Machine.execOverloadExpiry s
  | .primeLimit a => Sys2Proof.Machine.execPrimeLimit a s
  | .stuckWatchExpiry => Sys2Proof.Machine.execStuckWatchExpiry s
  | .pinLevelChange p d => Sys2Proof.Machine.execPinLevelChange p d s
  | .debounceSettle inp => Sys2Proof.Machine.execDebounceSettle inp s
  | .speedEdge => Sys2Proof.Machine.execSpeedEdge s
  | .quietTimerExpiry => Sys2Proof.Machine.execQuietTimerExpiry s
  | .captureRisingEdge m => Sys2Proof.Machine.execCaptureRisingEdge m s
  | .captureFallingEdge m => Sys2Proof.Machine.execCaptureFallingEdge m s
  | .lostExpiry m => Sys2Proof.Machine.execLostExpiry m s
  | .startupEnd => Sys2Proof.Machine.execStartupEnd s
  | .batterySample mv => Sys2Proof.Machine.execBatterySample mv s
  | .clockComparison count => Sys2Proof.Machine.execClockComparison count s
  | .ownerLapse => Sys2Proof.Machine.execOwnerLapse s
  | .dormancyTimerExpiry => Sys2Proof.Machine.execDormancyTimerExpiry s
  | .wakeStartBit l => Sys2Proof.Machine.execWakeStartBit l s
  | .wakeIgn => Sys2Proof.Machine.execWakeIgn s
  | .wakeLine => Sys2Proof.Machine.execWakeLine s
  | .wakeDriveEnd => Sys2Proof.Machine.execWakeDriveEnd s
  | .phaseTimerExpiry n => Sys2Proof.Machine.execPhaseTimerExpiry n s
  | .trailTimerExpiry n => Sys2Proof.Machine.execTrailTimerExpiry n s
  | .leadReached n => Sys2Proof.Machine.execLeadReached n s
  | .lampProveTest n current => Sys2Proof.Machine.execLampProveTest n current s
  | .openLoadTest c current => Sys2Proof.Machine.execOpenLoadTest c current s
  | .shortTrip c current => Sys2Proof.Machine.execShortTrip c current s
  | .pwmPeriodStart c => Sys2Proof.Machine.execPwmPeriodStart c s
  | .stepTimerExpiry c => Sys2Proof.Machine.execStepTimerExpiry c s
  | .sequenceLapse c => Sys2Proof.Machine.execSequenceLapse c s
  | .pauseTimerExpiry c => Sys2Proof.Machine.execPauseTimerExpiry c s
  | .replyStart l => Sys2Proof.Machine.execReplyStart l s
  | .resetbRelease => Sys2Proof.Machine.execResetbRelease s

end Sys2Proof.Machine
end

