-- ==== Sys2Proof/Machine/Tick.lean ====
section
/-! DEFINITION. A tick of the 1 MHz clock, which step makes when no command waits: every running timer advances, and the timer
events that come due at it join the queue (logs 1 and 2). -/

namespace Sys2Proof.Machine

/-! ### One microsecond later -/

def LinkRec.tick (r : LinkRec) : LinkRec := { r with gap := runTimer (ms 5) r.gap }

/-- The run timer counts in RUNNING alone (R13). -/
def Slot.tick (r : Slot) (window runLimit : Nat) : Slot :=
  { r with
    holders := r.holders.map (Machine.runTimer window)
    watch := r.watch.map (Machine.runTimer window)
    runTimer := if decide (r.state = .running) && decide (r.runTimer < runLimit) then r.runTimer + 1 else r.runTimer
    holdTimer := Machine.runTimer (ms 5000) r.holdTimer
    runDown := Machine.runTimer (ms 100) r.runDown }

def PrimeTimer.tick (limit : Nat) : PrimeTimer → PrimeTimer
  | .stopped => .stopped
  | .running t => .running (if t < limit then t + 1 else t)
  | .passed => .passed

/-- The run limit of the stroke in hand, in microseconds. -/
def State.limitInHand (s : State) (a : Actuator) : Nat :=
  match (s.slot a).stroke with
  | some k => s.runLimit a k
  | none => 0

/-- The limit of an input's stability timer: the glitch filter for SPEED (R44, R45). -/
def stabilityLimit (i : Input) : Nat := if i = .speed then ms 1 else ms 20

def InputRec.tick (r : InputRec) (limit : Nat) : InputRec := { r with timer := runTimer limit r.timer }

/-- The age of the last rising edge is only ever compared with 250 ms (R47, log 33). -/
def Permit.tick (p : Permit) : Permit :=
  { p with lastRise := runTimer (ms 250) p.lastRise, quiet := runTimer (ms 2000) p.quiet }

def Capture.tick (r : Capture) : Capture := { r with lost := runTimer (ms 40) r.lost }

def Context.tick (r : Context) (window stepLimit : Nat) : Context :=
  { r with
    stepTimer := runTimer stepLimit r.stepTimer
    holdTimer := runTimer window r.holdTimer
    pauseTimer := runTimer (ms 10000) r.pauseTimer }

def LampRec.tick (r : LampRec) (phase trail : Nat) : LampRec :=
  { r with
    phaseTimer := runTimer phase r.phaseTimer
    trailTimer := runTimer trail r.trailTimer
    lead := runTimer (ms 2000) r.lead
    prove := runTimer (ms 50) r.prove }

def ChanRec.tick (r : ChanRec) : ChanRec :=
  { r with prove := runTimer (ms 50) r.prove, period := runTimer (ms 5) r.period }

def Supply.tick (r : Supply) : Supply :=
  { r with sampleTimer := runTimer (ms 10) r.sampleTimer, clockTimer := runTimer (ms 1) r.clockTimer }

def Device.tick (r : Device) (delay : Nat) : Device :=
  { r with
    startup := runTimer (ms 100) r.startup
    ownerIdle := runTimer (ms 30000) r.ownerIdle
    dormancy := runTimer delay r.dormancy
    wakeDrive := runTimer (ms 100) r.wakeDrive
    ignWatch := runTimer (ms 20) r.ignWatch }

def StuckWatch.tick (r : StuckWatch) : StuckWatch := { r with timer := runTimer (ms 500) r.timer }

def Profile.tick (r : Profile) : Profile :=
  { r with update := runTimer (ms 10) r.update, overload := runTimer (ms 500) r.overload }

/-- The actuator whose slot has a number. -/
def actuatorOfIx (i : Fin 4) : Actuator := Actuator.all.get i

/-- Every running timer advances by one microsecond, and so does the capture counter (R63). -/
def State.advance (s : State) : State :=
  { s with
    links := s.links.map LinkRec.tick
    slots := Table.ofFn fun i => (s.slots.get i).tick s.refreshWindow (s.limitInHand (actuatorOfIx i))
    arbiter := { s.arbiter with prime := s.arbiter.prime.map (PrimeTimer.tick s.primeLimit) }
    stuck := s.stuck.tick
    profile := s.profile.tick
    inputs := Table.ofFn fun i => (s.inputs.get i).tick (stabilityLimit (Input.ofIx i))
    permit := s.permit.tick
    counter := s.counter + 1
    captures := s.captures.map Capture.tick
    contexts := Table.ofFn fun c => (s.context c).tick s.refreshWindow (s.stepLimit c)
    lamps := Table.ofFn fun n => (s.lamp n).tick (s.phaseDuration n) (s.trailInForce n)
    bank := { s.bank with channels := s.bank.channels.map ChanRec.tick }
    supply := s.supply.tick
    device := s.device.tick s.dormancyDelay }

/-! ### What is due -/

/-- The timer of the event has reached its limit. Requests, line events, pins, edges, measurements and resets come from
outside and are never due by time alone. -/
def State.isDue (s : State) : Instr → Bool
  | .gapTimerExpiry l => s.gapDue l
  | .holderLapse a l => s.holderDue a l
  | .watchLapse a l => s.watchDue a l
  | .runLimitExpiry a => s.runLimitDue a
  | .holdTimerExpiry a => s.holdDue a
  | .runDownEnd a => s.runDownDue a
  | .profileUpdate => s.updateDue
  | .overloadExpiry => s.overloadDue
  | .primeLimit a => s.primeDue a
  | .stuckWatchExpiry => s.stuckDue
  | .debounceSettle i => s.debounceDue i
  | .speedEdge => s.speedDue
  | .quietTimerExpiry => s.quietDue
  | .lostExpiry m => s.lostDue m
  | .startupEnd => s.startupDue
  | .ownerLapse => s.ownerDue
  | .dormancyTimerExpiry => s.dormancyDue
  | .wakeIgn => s.ignDue
  | .wakeDriveEnd => s.wakeDriveDue
  | .phaseTimerExpiry n => s.phaseDue n
  | .trailTimerExpiry n => s.trailDue n
  | .leadReached n => s.leadDue n
  | .pwmPeriodStart c => s.periodDue c
  | .stepTimerExpiry c => s.stepDue c
  | .sequenceLapse c => s.runHoldDue c
  | .pauseTimerExpiry c => s.pauseDue c
  | .status _ _ _ | .faults _ _ _ | .resetCause _ _ _ | .hold _ _ _ | .release _ _ _ | .move _ _ _ | .cancel _ _ _
  | .seqStart _ _ _ | .seqHold _ _ _ | .seqCancel _ _ _ | .lampSet _ _ _ | .lampClear _ _ _ | .output _ _ _
  | .stopAll _ _ _ | .resume _ _ _ | .ack _ _ _ | .ackAll _ _ | .configEnter _ _ _ | .configWrite _ _ _
  | .configRead _ _ _ | .configCommit _ _ _ | .restart _ _ _ | .unknownRequest _ _ _ _ | .frameDiscarded _ _
  | .framingError _ | .replySent _ | .replyDropped _ | .powerOnReset | .pinReset | .pinLevelChange _ _
  | .captureRisingEdge _ | .captureFallingEdge _ | .batterySample _ | .clockComparison _ | .wakeStartBit _ | .wakeLine
  | .lampProveTest _ _ | .openLoadTest _ _ | .shortTrip _ _ | .replyStart _ | .resetbRelease => false

/-- The timer events of the links, inputs and sensors. -/
def inputEvents : List Instr :=
  List.flatten [(List.finRange 4).map Instr.gapTimerExpiry, Input.all.map Instr.debounceSettle,
    [Instr.speedEdge, Instr.quietTimerExpiry], Sensor.all.map Instr.lostExpiry]

/-- The timer events of the slots and the arbiter. -/
def slotEvents : List Instr :=
  List.flatten [Actuator.all.flatMap fun a => (List.finRange 4).map (Instr.holderLapse a),
    Actuator.all.flatMap fun a => (List.finRange 4).map (Instr.watchLapse a), Actuator.all.map Instr.runLimitExpiry,
    Actuator.all.map Instr.holdTimerExpiry, Actuator.all.map Instr.runDownEnd,
    [Instr.profileUpdate, Instr.overloadExpiry], Actuator.all.map Instr.primeLimit, [Instr.stuckWatchExpiry]]

/-- The timer events of the sequence contexts, the lamps and the channels. -/
def outputEvents : List Instr :=
  List.flatten [(List.finRange 2).map Instr.stepTimerExpiry, (List.finRange 2).map Instr.sequenceLapse,
    (List.finRange 2).map Instr.pauseTimerExpiry, (List.finRange 4).map Instr.phaseTimerExpiry,
    (List.finRange 4).map Instr.trailTimerExpiry, (List.finRange 4).map Instr.leadReached,
    (List.finRange 12).map Instr.pwmPeriodStart]

/-- The timer events, in the order in which they join the queue when they come due at one tick (log 2). -/
def timerEvents : List Instr :=
  List.flatten [[Instr.startupEnd], inputEvents, slotEvents, outputEvents,
    [Instr.ownerLapse, Instr.dormancyTimerExpiry, Instr.wakeIgn, Instr.wakeDriveEnd]]

/-- The events whose timers still stand at their limit when the event has been taken: the stuck watch (R41), the lead clock
(R124) and the dormancy timer (R155). They come once, when the limit is reached. -/
def staysDue : Instr → Bool
  | .stuckWatchExpiry | .leadReached _ | .dormancyTimerExpiry => true
  | _ => false

/-- The timer events that a tick from `s` to `t` brings: those that are due in `t`, but one that stays due only where it was
not due in `s` (log 2). A timer that stands at its limit without its event having been taken thus brings it at the next tick:
a lapsed link that an end has moved to the watch set (R90), or a run timer at its limit when its slot enters RUNNING again, for
which R13 states no result (DESIGN CHOICE, log 38). -/
def State.comesDue (s t : State) : List Instr :=
  timerEvents.filter fun e => t.isDue e && !(staysDue e && s.isDue e)

/-- A tick: nothing moves while RESETB is held low (log 23). -/
def State.tick (s : State) : State :=
  if s.pins.resetbLow then s
  else { s.advance with pending := s.pending ++ s.comesDue s.advance }

end Sys2Proof.Machine
end

