-- ==== Sys2Proof/Safety.lean ====
section
/-! DEFINITION. What counts as a safe state, and the table of the requests: the terms in which statements are made. -/

namespace Sys2Proof

open Machine

/-- A request as the links take it: its link, code and tag, the roles that may make it (R175), and whether STARTUP serves it
(R172, R176). -/
structure RequestRow where
  link : Link
  code : Byte
  tag : Byte
  who : Permission
  inStartup : Bool
  deriving DecidableEq, Repr

/-- The request table; a command that is no request has no row. -/
def Instr.request? : Instr → Option RequestRow
  | .status l t _ => some ⟨l, 0x01, t, everyRole, true⟩
  | .faults l t _ => some ⟨l, 0x02, t, everyRole, false⟩
  | .resetCause l t _ => some ⟨l, 0x03, t, everyRole, true⟩
  | .hold l t ps => some ⟨l, 0x10, t, holdPermission ps, false⟩
  | .release l t ps => some ⟨l, 0x11, t, holdPermission ps, false⟩
  | .move l t _ => some ⟨l, 0x12, t, cabOnly, false⟩
  | .cancel l t _ => some ⟨l, 0x13, t, cabOnly, false⟩
  | .seqStart l t _ => some ⟨l, 0x20, t, cabRear, false⟩
  | .seqHold l t _ => some ⟨l, 0x21, t, cabRear, false⟩
  | .seqCancel l t _ => some ⟨l, 0x22, t, cabRear, false⟩
  | .lampSet l t _ | .lampClear l t _ => some ⟨l, 0x30, t, cabRearKerb, false⟩
  | .output l t _ => some ⟨l, 0x31, t, cabService, false⟩
  | .stopAll l t _ => some ⟨l, 0x40, t, everyRole, false⟩
  | .resume l t _ => some ⟨l, 0x41, t, cabRearService, false⟩
  | .ack l t _ | .ackAll l t => some ⟨l, 0x42, t, cabService, false⟩
  | .configEnter l t _ => some ⟨l, 0x50, t, cabService, false⟩
  | .configWrite l t _ => some ⟨l, 0x51, t, cabService, false⟩
  | .configRead l t _ => some ⟨l, 0x52, t, cabService, false⟩
  | .configCommit l t _ => some ⟨l, 0x53, t, cabService, false⟩
  | .restart l t _ => some ⟨l, 0x5F, t, serviceOnly, false⟩
  | .unknownRequest l c t _ => some ⟨l, c, t, everyRole, true⟩
  | .frameDiscarded _ _ | .framingError _ | .gapTimerExpiry _ | .replySent _ | .replyDropped _ | .powerOnReset
  | .pinReset | .holderLapse _ _ | .watchLapse _ _ | .runLimitExpiry _ | .holdTimerExpiry _ | .runDownEnd _
  | .profileUpdate | .overloadExpiry | .primeLimit _ | .stuckWatchExpiry | .pinLevelChange _ _ | .debounceSettle _
  | .speedEdge | .quietTimerExpiry | .captureRisingEdge _ | .captureFallingEdge _ | .lostExpiry _ | .startupEnd
  | .batterySample _ | .clockComparison _ | .ownerLapse | .dormancyTimerExpiry | .wakeStartBit _ | .wakeIgn | .wakeLine
  | .wakeDriveEnd | .phaseTimerExpiry _ | .trailTimerExpiry _ | .leadReached _ | .lampProveTest _ _ | .openLoadTest _ _
  | .shortTrip _ _ | .pwmPeriodStart _ | .stepTimerExpiry _ | .sequenceLapse _ | .pauseTimerExpiry _ | .replyStart _
  | .resetbRelease => none

end Sys2Proof

namespace Sys2Proof.Machine

/-- A request from this link is taken and its role may make it. -/
def State.admits (s : State) (l : Link) (who : Permission) : Prop :=
  s.takesFrame l = true ∧ who.allows (s.link l).role = true

/-- What the hand-offs inside a step never change: the pins, the links, the inputs, the sensors' channels, the battery's
samples, the configuration tables, the capture counter, the free values drawn and the waiting commands. -/
structure Surroundings where
  pins : Pins
  links : Table LinkRec 4
  inputs : Table InputRec 13
  counter : BitVec 16
  captures : Table Capture 3
  supply : Supply
  tables : Tables
  draws : Nat
  pending : List Instr
  deriving DecidableEq, Repr

def State.surroundings (s : State) : Surroundings :=
  ⟨s.pins, s.links, s.inputs, s.counter, s.captures, s.supply, s.tables, s.draws, s.pending⟩

/-- No arrival waits, and every derived record stands as its sources give it (R46, R133). -/
def State.Settled (s : State) : Prop := s.agenda = [] ∧ s.derive = s

/-- No channel that carries a power function is driven while the power cutoff is in force (R136). -/
def State.PowerSafe (s : State) : Prop :=
  ∀ c f, s.tables.outputMap.get c = some f → f.isPower = true → s.cutoff = true →
    (s.chan c).drive = .off ∨ (s.chan c).drive = .tripped

/-- At most 16 entries, at most one for each kind and subject, each with a count of 1 to 255, and an event entry never
ACTIVE (R160, R162). -/
def FaultTable.Sound (t : FaultTable) : Prop :=
  t.entries.length ≤ 16
    ∧ t.entries.Pairwise (fun e e' => ¬(e.kind = e'.kind ∧ e.subject = e'.subject))
    ∧ ∀ e ∈ t.entries, 1 ≤ e.count ∧ e.count ≤ 255 ∧ (e.active = true → e.kind.isCondition = true)

/-- Outside READY every slot and both contexts are IDLE, the call list is empty, and nothing is granted (R143, R149). -/
def State.RestsUnlessReady (s : State) : Prop :=
  s.device.state ≠ .ready →
    s.slotsIdle = true ∧ s.contextsIdle = true ∧ s.arbiter.callList = [] ∧ (∀ c, s.grant c = none)
      ∧ s.arbiter.pumpOwner = none

/-- The call list holds exactly the WAITING slots, each once; a circuit's grant and the pump ownership name exactly the slots
that hold them (R2, R24, R25, R26). -/
def State.SupplyAgrees (s : State) : Prop :=
  s.arbiter.callList.Nodup
    ∧ (∀ a, a ∈ s.arbiter.callList ↔ (s.slot a).state = .waiting)
    ∧ (∀ a, s.grant a.circuit = some a ↔ (s.slot a).state.granted = true)
    ∧ (∀ c a, s.grant c = some a → a.circuit = c)
    ∧ (∀ a, s.arbiter.pumpOwner = some a ↔ ((s.slot a).state.granted = true ∧ (s.slot a).stroke = some .powered))

/-- A slot that holds or asks for the supply has a stroke, and holders or an owner but not both; one in SETTLING or BLOCKED
has neither; an IDLE one has no watch set either (R2). -/
def Slot.Sound (r : Slot) : Prop :=
  match r.state with
  | .idle => r.stroke = none ∧ r.holders.isEmpty = true ∧ r.owner = none ∧ r.watch.isEmpty = true
  | .waiting | .priming | .running | .holding =>
    r.stroke ≠ none ∧ ((r.holders.isEmpty = true ∧ r.owner ≠ none) ∨ (r.holders.isEmpty = false ∧ r.owner = none))
  | .settling => r.stroke ≠ none ∧ r.holders.isEmpty = true ∧ r.owner = none
  | .blocked => r.stroke = none ∧ r.holders.isEmpty = true ∧ r.owner = none ∧ r.watch.isEmpty = false

/-- Every slot is sound. -/
def State.SlotsSound (s : State) : Prop := ∀ a, (s.slot a).Sound

/-- READY is left when the emergency stop is asserted (R145). -/
def State.StopsOnEstop (s : State) : Prop := s.device.state = .ready → s.asserted .estop = false

/-- The largest value a channel reports: its span, or 400 bar (R65, R66). -/
def State.span (s : State) : Sensor → Nat
  | .height => s.tables.scaling.hmax
  | .tilt => s.tables.scaling.tspan
  | .pressure => 400

/-- At most four values, at most three bad captures, VALID exactly with four values and fewer than three bad captures, and
no value beyond the span (R62, R67 to R70, R75). -/
def Capture.Sound (r : Capture) (span : Nat) : Prop :=
  r.window.length ≤ 4 ∧ r.bad ≤ 3 ∧ (r.valid = true ↔ r.window.length = 4 ∧ r.bad < 3)
    ∧ (∀ v ∈ r.window, v ≤ span) ∧ r.reported ≤ span

/-- Every channel is sound under the present scaling. -/
def State.CapturesSound (s : State) : Prop := ∀ m, (s.capture m).Sound (s.span m)

/-! ### What is derived continuously -/

/-- The hatch positions are those the end switches give (R49), BETWEEN in STARTUP and DORMANT (R46). -/
def State.HatchesFollow (s : State) : Prop :=
  ∀ h, s.hatchPos h =
    if s.awake = false ∨ s.asserted? h.shutSwitch = none ∨ s.asserted? h.openSwitch = none then .between
    else if s.asserted h.shutSwitch = true ∧ s.asserted h.openSwitch = true then .unknown
    else if s.asserted h.shutSwitch = true then .shut
    else if s.asserted h.openSwitch = true then .opened
    else .between

/-- The eighteen conditions are true as R51 and R52 list them, and false in STARTUP and DORMANT (R46). -/
def State.ConditionsFollow (s : State) : Prop :=
  ∀ c, s.cond c = true ↔ s.awake = true ∧
    match c with
    | .parked => s.asserted .park = true
    | .standstill => s.permit.standstill = true
    | .estopClear => s.asserted? .estop = some false
    | .ignitionOn => s.asserted .ign = true
    | .supplyNormal => s.supply.zone = .normal
    | .supplyUsable => s.supply.zone = .normal ∨ s.supply.zone = .sag
    | .stowed => s.asserted .stow = true
    | .atGround => s.asserted .ground = true
    | .liftAtBed => (s.capture .height).valid = true
        ∧ s.tables.scaling.hbed ≤ (s.capture .height).reported + s.tables.scaling.sbH
    | .khShut => s.hatchPos .kerbside = .shut
    | .khOpen => s.hatchPos .kerbside = .opened
    | .ohShut => s.hatchPos .offside = .shut
    | .ohOpen => s.hatchPos .offside = .opened
    | .gate0 => s.asserted .gate0 = true
    | .gate1 => s.asserted .gate1 = true
    | .heightValid => (s.capture .height).valid = true
    | .tiltValid => (s.capture .tilt).valid = true
    | .pressureValid => (s.capture .pressure).valid = true

/-- The channel carries the function: the lowest-numbered one whose entry names it (R133, R134). -/
def State.Carries (s : State) (c : Chan) (f : Func) : Prop :=
  s.tables.outputMap.get c = some f ∧ ∀ d, d < c → s.tables.outputMap.get d ≠ some f

/-- The entry covers the stroke (R58); an entry on a channel covers the strokes of the function that the channel's map entry
names, also where another entry names it too (log 39). -/
def Tables.Covered (t : Tables) (e : FaultEntry) (a : Actuator) (k : Stroke) : Prop :=
  match e.kind with
  | .sensorRange | .sensorLost =>
    (a = .lift ∧ (e.subject = .sensor .height ∨ e.subject = .sensor .pressure)) ∨ (a = .tilt ∧ e.subject = .sensor .tilt)
  | .hatchSwitch => e.subject = .actuator a
  | .driverOpen | .driverShort => ∃ c f, e.subject = .chan c ∧ t.outputMap.get c = some f ∧ f ∈ strokeFuncs a k
  | .pumpStuck => k = .powered
  | .lampOpen => ∃ n, e.subject = .lamp n ∧ (t.lamps.get n).required = true ∧ (t.lamps.get n).mask.get a.ix = true
  | .estop | .vehicleMoved | .pumpNoRun | .pumpRunLost | .overload | .runTimeout | .lowSupply | .sequenceOverrun => False

/-- A required lamp that announces the actuator is FAILED (R59). -/
def State.LampFailed (s : State) (a : Actuator) : Prop :=
  ∃ n, (s.lampCfg n).required = true ∧ (s.lampCfg n).mask.get a.ix = true ∧ (s.lamp n).proven = .failed

/-- The cause stands at the stroke (R57, R60). -/
def State.CauseStands (s : State) (a : Actuator) (k : Stroke) : Cause → Prop
  | .tripped => ∃ f ∈ strokeFuncs a k, ∃ c, s.Carries c f ∧ (s.chan c).drive = .tripped
  | .driverEntry => ∃ e ∈ s.faults.entries, (e.kind = .driverOpen ∨ e.kind = .driverShort) ∧ s.tables.Covered e a k
  | .lampFailed => s.LampFailed a ∨ ∃ e ∈ s.faults.entries, e.kind = .lampOpen ∧ s.tables.Covered e a k
  | .sensorEntry => ∃ e ∈ s.faults.entries, (e.kind = .sensorRange ∨ e.kind = .sensorLost) ∧ s.tables.Covered e a k
  | .hatchSwitch => ∃ e ∈ s.faults.entries, e.kind = .hatchSwitch ∧ s.tables.Covered e a k
  | .pumpStuck => ∃ e ∈ s.faults.entries, e.kind = .pumpStuck ∧ s.tables.Covered e a k
  | .fullFlag => s.faults.full = true
  | .unmapped => ∃ f ∈ strokeFuncs a k, ∀ c, ¬s.Carries c f

/-- Every stroke is ready exactly when the four parts of R57 hold; in DORMANT readiness stands as it did in `s`. -/
def State.ReadinessFollows (s t : State) : Prop :=
  ∀ a k,
    if s.device.state = .dormant then t.ready a k = s.ready a k
    else t.ready a k = true ↔
      (∀ f ∈ strokeFuncs a k, ∃ c, t.Carries c f ∧ (t.chan c).drive ≠ .tripped)
        ∧ (∀ e ∈ t.faults.entries, ¬t.tables.Covered e a k) ∧ ¬t.LampFailed a ∧ t.faults.full = false

/-- A slot of an actuator in the lamp's mask is in PRIMING, RUNNING, HOLDING or SETTLING (R120). -/
def State.Announced (s : State) (n : Lamp) : Prop :=
  ∃ a, (s.lampCfg n).mask.get a.ix = true ∧ (s.slot a).state ∈ [SlotState.priming, .running, .holding, .settling]

/-- The lamp stands at the beginning of a pattern (R117, R119). -/
def LampRec.Begins (r : LampRec) (p : Pattern) (startOn : Bool) : Prop :=
  if p.on = 0 then r.phaseOn = false ∧ r.phaseTimer = none
  else if p.off = 0 then r.phaseOn = true ∧ r.phaseTimer = none
  else r.phaseOn = startOn ∧ r.phaseTimer = some 0

/-- The lamps' demands, classes, lead clocks and patterns in `t` follow from those in `s` and from the slots, the entries and
the device state (R118 to R121, R124, R125). -/
def State.LampsFollow (s t : State) : Prop :=
  ∀ n,
    let r := s.lamp n
    let q := t.lamp n
    let cfg := s.lampCfg n
    let motionless := r.motion = .slot ∧ max cfg.trail s.tables.timing.trailBase = 0
    (s.Announced n → q.motion = .slot ∧ q.trailTimer = none)
      ∧ (¬s.Announced n → motionless → q.motion = .absent ∧ q.trailTimer = none)
      ∧ (¬s.Announced n → ¬motionless → r.motion = .slot → q.motion = .trail ∧ q.trailTimer = some 0)
      ∧ (¬s.Announced n → r.motion ≠ .slot → q.motion = r.motion ∧ q.trailTimer = r.trailTimer)
      ∧ (q.fault = true ↔ cfg.faultInd = true ∧ s.awake = true
          ∧ ((∃ e ∈ s.faults.entries, ∃ a k, s.tables.Covered e a k) ∨ s.faults.full = true ∨ s.device.state = .stopped))
      ∧ q.cls = (if q.fault = true then .fault else if q.motion ≠ .absent then .motion
          else if r.manual ≠ none then .manual else .none)
      ∧ q.lead = (if q.motion ≠ .absent ∨ q.fault = true then some (r.lead.getD 0) else none)
      ∧ q.manual = r.manual ∧ q.bursts = r.bursts ∧ q.proven = r.proven
      ∧ (q.cls = r.cls → q.phaseOn = r.phaseOn ∧ q.phaseTimer = r.phaseTimer ∧ q.prove = r.prove)
      ∧ (q.cls ≠ r.cls → (q.cls = .fault → q.Begins cfg.fault true) ∧ (q.cls = .motion → q.Begins cfg.motion true)
          ∧ (∀ m, q.cls = .manual → r.manual = some m → q.Begins m.pattern m.startOn)
          ∧ (q.cls = .none → q.phaseOn = false ∧ q.phaseTimer = none)
          ∧ q.prove = (if q.cls = .none ∨ q.phaseOn = false then none
              else if r.cls ≠ .none ∧ r.phaseOn = true then r.prove else some 0))

/-- The request is ON when `p` holds and OFF otherwise. -/
def Request.OnWhen (r : Request) (p : Prop) : Prop := (p → r = .on) ∧ (¬p → r = .off)

/-- The slot asks for a valve: its stroke runs, or its powered stroke is run down (R34). -/
def Slot.Drives (r : Slot) : Prop := r.state = .running ∨ (r.state = .settling ∧ r.stroke = some .powered)

/-- The twelve requests are those R34, R79, R118 and R132 give; AUX0 and AUX1 stand as they did in `s`. -/
def State.RequestsFollow (s t : State) : Prop :=
  let lift := s.slot .lift
  let lowers := lift.stroke = some .ret ∧ (lift.state = .running ∨ lift.state = .settling) ∧ s.profile.uOut ≠ 0
  (t.request .pump).OnWhen (∃ a, s.arbiter.pumpOwner = some a ∧ ((s.slot a).state = .priming ∨ (s.slot a).state = .running))
    ∧ (lowers → t.request .lower = .pwm s.profile.uOut) ∧ (¬lowers → t.request .lower = .off)
    ∧ (t.request .tiltv).OnWhen (s.slot .tilt).Drives
    ∧ (t.request .khatchv).OnWhen (s.slot .khatch).Drives
    ∧ (t.request .ohatchv).OnWhen (s.slot .ohatch).Drives
    ∧ (t.request .divert).OnWhen (((s.slot .khatch).stroke = some .powered ∧ (s.slot .khatch).Drives)
        ∨ ((s.slot .ohatch).stroke = some .powered ∧ (s.slot .ohatch).Drives))
    ∧ (∀ n, (t.request (lampFunc n)).OnWhen ((t.lamp n).cls ≠ .none ∧ (t.lamp n).phaseOn = true))
    ∧ t.request .aux0 = s.request .aux0 ∧ t.request .aux1 = s.request .aux1

/-- The power cutoff of R136 keeps the function from being driven. -/
def State.CutOff (s : State) (f : Func) : Prop :=
  f ∈ [Func.pump, .lower, .tiltv, .khatchv, .ohatchv, .divert] ∧ (s.device.state ≠ .ready ∨ s.asserted .estop = true)

/-- The channels drive what R133, R135 and R137 give them, from what they drove in `s`; a TRIPPED one stands (R138). -/
def State.ChannelsFollow (s t : State) : Prop :=
  ∀ c,
    let r := s.chan c
    let on := ∃ f, t.Carries c f ∧ f ≠ .lower ∧ t.request f = .on ∧ ¬t.CutOff f
    let pwm := fun d : Nat => t.Carries c .lower ∧ c.val ≤ 3 ∧ t.request .lower = .pwm d ∧ ¬t.CutOff .lower
    (r.drive = .tripped → t.chan c = r)
      ∧ (r.drive ≠ .tripped → ¬on → (∀ d, ¬pwm d) → t.chan c = ⟨.off, 0, 0, none, none, false⟩)
      ∧ (r.drive = .on → on → t.chan c = r)
      ∧ (r.drive = .off → on → t.chan c = ⟨.on, 0, 0, some 0, none, false⟩)
      ∧ (r.drive = .pwm → on → t.chan c = ⟨.on, 0, 0, r.prove, none, false⟩)
      ∧ (∀ d, r.drive = .pwm → pwm d → t.chan c = { r with pending := d })
      ∧ (∀ d, r.drive = .off → pwm d → t.chan c = ⟨.pwm, d, d, some 0, some 0, false⟩)
      ∧ (∀ d, r.drive = .on → pwm d → t.chan c = ⟨.pwm, d, d, r.prove, some 0, false⟩)

/-- The stuck watch runs, holds at 500 ms and stops as R41 says, and not in STARTUP and DORMANT (log 22). -/
def State.StuckWatchFollows (s t : State) : Prop :=
  t.stuck.timer =
    if s.awake = false ∨ s.asserted .pumprun = false then none
    else if 500000 ≤ s.stuck.timer.getD 0 then s.stuck.timer
    else if t.request .pump = .on then none
    else some (s.stuck.timer.getD 0)

/-- What is derived hands on one arrival for each change of a position, a condition or a readiness, and nothing else (R49, R53,
R60, R148). -/
def State.ChangesHandedOn (s t : State) : Prop :=
  ∃ xs, t.agenda = s.agenda ++ xs
    ∧ (∀ h, .hatchMoved h ∈ xs ↔ t.hatchPos h ≠ s.hatchPos h)
    ∧ (.movement ∈ xs ↔ ∃ h, s.hatchPos h = .shut ∧ t.hatchPos h ≠ .shut)
    ∧ (∀ c v, .condition c v ∈ xs ↔ t.cond c = v ∧ s.cond c ≠ v)
    ∧ (∀ a k, (∃ cause, .readiness a k cause ∈ xs) ↔ t.ready a k ≠ s.ready a k)
    ∧ (∀ a k, .readiness a k none ∈ xs → t.ready a k = true)
    ∧ (∀ a k cause, .readiness a k (some cause) ∈ xs → t.ready a k = false ∧ t.CauseStands a k cause)
    ∧ ∀ x ∈ xs, x = .movement ∨ (∃ h, x = .hatchMoved h) ∨ (∃ c v, x = .condition c v)
        ∨ ∃ a k cause, x = .readiness a k cause

/-! ### What STATUS shows (R177, R183) -/

/-- A slot's code, or 0xFF. -/
def codeOrNone : Option Actuator → Nat
  | none => 0xFF
  | some .lift => 0
  | some .tilt => 1
  | some .khatch => 2
  | some .ohatch => 3

/-- The seven bytes of a slot, from byte `first` of the record on. -/
def State.SlotShown (s : State) (bs : List Nat) (a : Actuator) (first : Nat) : Prop :=
  let r := s.slot a
  let keepsAlive := r.state ∈ [SlotState.waiting, .priming, .running, .holding]
  let position := 256 * bs.getD (first + 4) 0 + bs.getD (first + 5) 0
  bs.getD first 0 = (match r.state with
      | .idle => 0 | .waiting => 1 | .priming => 2 | .running => 3 | .holding => 4 | .settling => 5 | .blocked => 6)
    ∧ bs.getD (first + 1) 0 = (match r.stroke with | some .powered => 0 | some .ret => 1 | none => 0xFF)
    ∧ (∀ l : Link, (bs.getD (first + 2) 0).testBit l.val = true ↔
        (keepsAlive ∧ r.holders.get l ≠ none)
          ∨ ((r.state = .settling ∨ r.state = .blocked) ∧ r.watch.get l ≠ none))
    ∧ (∀ c : Ctx, (bs.getD (first + 2) 0).testBit (4 + c.val) = true ↔ r.reportTo = some c)
    ∧ bs.getD (first + 3) 0 = (match r.owner with | some (.link l) => l.val | some (.ctx c) => 0x10 + c.val | none => 0xFF)
    ∧ (match a with
      | .lift => position = (s.capture .height).reported % 65536
      | .tilt => position = (s.capture .tilt).reported % 65536
      | .khatch => position = (match s.hatchPos .kerbside with | .shut => 0 | .opened => 1 | .between => 2 | .unknown => 3)
      | .ohatch => position = (match s.hatchPos .offside with | .shut => 0 | .opened => 1 | .between => 2 | .unknown => 3))
    ∧ bs.getD (first + 6) 0 = (match r.outcome with
      | .none => 0 | .reached => 1 | .released => 2 | .lapsed => 3 | .cancelled => 4 | .stopped => 5 | .conflict => 6
      | .interlock => 7 | .sensorFault => 8 | .driverFault => 9 | .pumpFault => 10 | .overload => 11 | .timeout => 12
      | .lowSupply => 13 | .beaconFault => 14 | .gateTimeout => 15)

/-- The three bytes of a context, from byte `first` of the record on. -/
def State.ContextShown (s : State) (bs : List Nat) (c : Ctx) (first : Nat) : Prop :=
  let r := s.context c
  bs.getD first 0 % 16 = (match r.state with | .idle => 0 | .active => 1 | .paused => 2)
    ∧ bs.getD first 0 / 16 = (match r.result with
      | .none => 0 | .done => 1 | .stepFailed => 2 | .overrun => 3 | .lapsed => 4 | .cancelled => 5 | .stopped => 6)
    ∧ bs.getD (first + 1) 0 = (match r.sequence with | some n => n.val | none => 0xFF)
    ∧ bs.getD (first + 2) 0 = (match r.step with | some n => n.val | none => 0xFF)

/-- The 53 bytes of the STATUS record show the state. Numbers wider than their field, which no run reaches, are shown by their
low bits; DORMANT, which answers no frame, has no code. -/
def State.StatusIs (s : State) (bytes : List Byte) : Prop :=
  let bs := bytes.map (·.toNat)
  bs.length = 53
    ∧ (match s.device.state with
      | .startup => bs.getD 0 0 = 0 | .unconfigured => bs.getD 0 0 = 1 | .config => bs.getD 0 0 = 2
      | .ready => bs.getD 0 0 = 3 | .stopped => bs.getD 0 0 = 4 | .dormant => True)
    ∧ bs.getD 1 0 = (if s.supply.defined = true then
        (match s.supply.zone with | .normal => 0 | .sag => 1 | .low => 2) else 2)
    ∧ 256 * bs.getD 2 0 + bs.getD 3 0 = s.supply.window.sum / s.supply.window.length % 65536
    ∧ (∀ c : Cond, (65536 * bs.getD 4 0 + 256 * bs.getD 5 0 + bs.getD 6 0).testBit c.ix.val = s.cond c)
    ∧ s.SlotShown bs .lift 7 ∧ s.SlotShown bs .tilt 14 ∧ s.SlotShown bs .khatch 21 ∧ s.SlotShown bs .ohatch 28
    ∧ bs.getD 35 0 = codeOrNone (s.grant .liftCircuit) ∧ bs.getD 36 0 = codeOrNone (s.grant .hatchCircuit)
    ∧ bs.getD 37 0 = codeOrNone s.arbiter.pumpOwner
    ∧ (∀ i, i < 4 → bs.getD (38 + i) 0 = codeOrNone s.arbiter.callList[i]?)
    ∧ s.ContextShown bs 0 42 ∧ s.ContextShown bs 1 45
    ∧ (∀ n : Lamp, (bs.getD 48 0).testBit n.val = true ↔ (s.lamp n).cls ≠ .none ∧ (s.lamp n).phaseOn = true)
    ∧ (∀ n : Lamp, (bs.getD 49 0).testBit n.val = true ↔ (s.lamp n).proven = .failed)
    ∧ bs.getD 50 0 % 128 = s.faults.entries.length % 128
    ∧ (s.faults.entries.length < 128 → ((bs.getD 50 0).testBit 7 = true ↔ s.faults.full = true))
    ∧ 256 * bs.getD 51 0 + bs.getD 52 0 = (s.capture .pressure).reported % 65536

/-- The lowest place at which `p` holds. -/
def FirstAt {n : Nat} (p : Fin n → Prop) (i : Fin n) : Prop := p i ∧ ∀ j, j < i → ¬p j

end Sys2Proof.Machine
end

