-- ==== Sys2Proof/Certificates/Slice0/Obligations.lean ====
section
/-! DEFINITION. The statements for the provers. `s.withFrame l` is the state in which the request of a valid frame is taken
(FramesTaken), `finish` and `finishEvent` make the hand-offs that follow an effect (HandOffs, RequestFrame,
TimerEventFrame), and `replied` gives the link its waiting reply. -/

section

open Sys2Proof Sys2Proof.Machine

/-! ### Steps -/

/-- The command at the front of the queue is the step, with the queue's rest. -/
def Obligations.StepTakesFront : Prop :=
  ∀ (c : Instr) (rest : List Instr) (s : State),
    step { s with pending := c :: rest } = exec c { s with pending := rest }

/-- On an empty queue the clock ticks: the capture counter rises, every running timer advances by one microsecond until it stands
at its limit, a stopped one stays stopped, the timer events that are due join the queue (those whose timers stand at their limits
afterwards only where they have just come due), and nothing else changes (the model's choices, logs 1, 2, 33 and 38). -/
def Obligations.EmptyQueueTicks : Prop :=
  ∀ s : State, s.pending = [] → s.pins.resetbLow = false →
    let run := fun (limit : Nat) (timer : Option Nat) => timer.map fun v => if v < limit then v + 1 else v
    let window := 10000 * s.tables.timing.refresh
    ∃ t, step s = .next t ∧ t.counter = s.counter + 1
      ∧ (∀ c, c ∈ t.pending ↔ c ∈ timerEvents ∧ t.isDue c = true
          ∧ ((c = .stuckWatchExpiry ∨ c = .dormancyTimerExpiry ∨ ∃ n, c = .leadReached n) → s.isDue c = false))
      ∧ (∀ l, t.link l = { s.link l with gap := run 5000 (s.link l).gap })
      ∧ (∀ a,
          let r := s.slot a
          (t.slot a = { r with
              holders := (t.slot a).holders, watch := (t.slot a).watch, runTimer := (t.slot a).runTimer
              holdTimer := run 5000000 r.holdTimer, runDown := run 100000 r.runDown })
            ∧ (∀ l, (t.slot a).holders.get l = run window (r.holders.get l)
              ∧ (t.slot a).watch.get l = run window (r.watch.get l))
            ∧ (∀ k, r.state = .running → r.stroke = some k → r.runTimer < 1000000 * (s.policy a k).runLimit →
              (t.slot a).runTimer = r.runTimer + 1)
            ∧ (¬(r.state = .running ∧ ∃ k, r.stroke = some k ∧ r.runTimer < 1000000 * (s.policy a k).runLimit) →
              (t.slot a).runTimer = r.runTimer))
      ∧ (∀ a, (∀ v, s.prime a = .running v →
            t.prime a = .running (if v < 1000 * s.tables.timing.primeLimit then v + 1 else v))
          ∧ ((∀ v, s.prime a ≠ .running v) → t.prime a = s.prime a))
      ∧ t.stuck = { s.stuck with timer := run 500000 s.stuck.timer }
      ∧ t.profile = { s.profile with update := run 10000 s.profile.update, overload := run 500000 s.profile.overload }
      ∧ (∀ i, t.input i = { s.input i with timer := run (if i = .speed then 1000 else 20000) (s.input i).timer })
      ∧ t.permit = { s.permit with lastRise := run 250000 s.permit.lastRise, quiet := run 2000000 s.permit.quiet }
      ∧ (∀ m, t.capture m = { s.capture m with lost := run 40000 (s.capture m).lost })
      ∧ (∀ c, t.context c = { s.context c with
            stepTimer := run (s.stepLimit c) (s.context c).stepTimer
            holdTimer := run window (s.context c).holdTimer
            pauseTimer := run 10000000 (s.context c).pauseTimer })
      ∧ (∀ n, t.lamp n = { s.lamp n with
            phaseTimer := run (s.phaseDuration n) (s.lamp n).phaseTimer
            trailTimer := run (1000 * max (s.lampCfg n).trail s.tables.timing.trailBase) (s.lamp n).trailTimer
            lead := run 2000000 (s.lamp n).lead
            prove := run 50000 (s.lamp n).prove })
      ∧ (∀ c, t.chan c = { s.chan c with prove := run 50000 (s.chan c).prove, period := run 5000 (s.chan c).period })
      ∧ t.supply = { s.supply with
            sampleTimer := run 10000 s.supply.sampleTimer, clockTimer := run 1000 s.supply.clockTimer }
      ∧ t.device = { s.device with
            startup := run 100000 s.device.startup
            ownerIdle := run 30000000 s.device.ownerIdle
            dormancy := run (60000000 * s.tables.timing.dormancy) s.device.dormancy
            wakeDrive := run 100000 s.device.wakeDrive
            ignWatch := run 20000 s.device.ignWatch }
      ∧ t.arbiter = { s.arbiter with prime := t.arbiter.prime } ∧ t.bank.requests = s.bank.requests
      ∧ t.tables = s.tables ∧ t.faults = s.faults ∧ t.pins = s.pins ∧ t.draws = s.draws ∧ t.agenda = s.agenda

/-- While RESETB is low nothing but a pin, the supply's return or the release changes the part, and a timer event whose timer
has not reached its limit changes nothing; a lapse of a holder also comes when the link is by then a watched one that is due
(the model's choices, logs 23 and 3). -/
def Obligations.WhatDoesNotCome : Prop :=
  (∀ (s : State) (c : Instr), s.pins.resetbLow = true → c ≠ .powerOnReset → c ≠ .resetbRelease →
      (∀ p d, c ≠ .pinLevelChange p d) → exec c s = .next s ∧ (s.pending = [] → step s = .next s))
    ∧ ∀ (s : State) (c : Instr), c ∈ timerEvents → s.isDue c = false →
        (∀ a l, c = .holderLapse a l → s.isDue (.watchLapse a l) = false) → exec c s = .next s

/-- What follows continuously from the records is derived as its rules give it: hatch positions, the eighteen conditions, the
readiness of every stroke, the lamps' demands, classes, patterns and lead clocks, the requests, the channels and the stuck
watch; each change of a position, a condition or a readiness is handed on as one arrival; nothing else changes, and deriving a
second time changes nothing. Arrivals are taken one by one, each with what follows from it before those that stood behind it, at
most 20,000 in one step (the model's choices, logs 4 and 5). Coverage by an entry on a channel reads the channel's map entry,
also where two entries name one function (the model's choice, log 39). -/
def Obligations.DerivingSettles : Prop :=
  (∀ s : State,
    let t := s.derive
    t.derive = t ∧ t.HatchesFollow ∧ t.ConditionsFollow ∧ s.ReadinessFollows t ∧ s.LampsFollow t ∧ s.RequestsFollow t
      ∧ s.ChannelsFollow t ∧ s.StuckWatchFollows t ∧ s.ChangesHandedOn t
      ∧ t = { s with
          permit := { s.permit with hatch := t.permit.hatch, conds := t.permit.conds, ready := t.permit.ready }
          lamps := t.lamps
          bank := t.bank
          stuck := { s.stuck with timer := t.stuck.timer }
          agenda := t.agenda })
    ∧ (∀ s : State, s.finish = State.settle 20000 s.derive)
    ∧ ∀ (s : State) (n : Nat),
      (s.agenda = [] → State.settle n s = s)
        ∧ ∀ x rest, s.agenda = x :: rest →
          let u := (({ s with agenda := [] }).take x).derive
          State.settle (n + 1) s = State.settle n { u with agenda := u.agenda ++ rest }

/-- The events of the slots, the arbiter, the contexts, the lamps and the channels leave the links, the inputs, the sensors,
the battery's samples, the tables and the waiting commands alone, unless the part falls DORMANT. -/
def Obligations.TimerEventFrame : Prop :=
  ∀ (s t : State) (c : Instr), c ∈ slotEvents ∨ c ∈ outputEvents → exec c s = .next t → t.device.state ≠ .dormant →
    t.surroundings = s.surroundings

/-! ### Links -/

/-- A frame's characters, from a link that hunts, are one frame with that body, and the link hunts again after it; a reply to a
request code below 0x80 has the layout of a reply frame; and the CRC of both takes each byte, first to last, into the remainder,
which is then shifted left eight times and combined with 0x07 after each shift in which a 1 left the top place. -/
def Obligations.FramesAreFound : Prop :=
  (∀ (code tag : Byte) (params : List Byte), params.length ≤ 58 →
      Rx.frames .hunt (requestFrame code tag params) = [code :: tag :: params]
        ∧ Rx.run .hunt (requestFrame code tag params) = .hunt)
    ∧ (∀ r : Reply, r.code.toNat < 0x80 →
        let body := byte (r.code.toNat + 0x80) :: r.tag :: r.result.code :: r.data
        r.frame = 0x5A :: byte (3 + r.data.length) :: body ++ [crc8 (byte (3 + r.data.length) :: body)])
    ∧ (let shift := fun r : Byte => if 128 ≤ r.toNat then (r <<< 1) ^^^ 0x07 else r <<< 1
      crc8 [] = 0
        ∧ ∀ (bs : List Byte) (b : Byte),
          crc8 (bs ++ [b]) = shift (shift (shift (shift (shift (shift (shift (shift (crc8 bs ^^^ b)))))))))
    ∧ crc8 [0x02] = 0x0E ∧ crc8 [0x02, 0x01] = 0x2D ∧ crc8 [0x02, 0x01, 0x00] = 0xC3

/-- A frame that is taken leaves its link hunting with no reply waiting, restarts the dormancy timer and, from the owner in
CONFIG, the owner idle timer, and changes nothing else. A request on a link without a role leaves a hunting link; in DORMANT
it wakes the part, which drives WAKE; one whose start bit drops the reply of a RESTART is lost in the reset that follows (the
model's choice, log 13). -/
def Obligations.FramesTakenAndLost : Prop :=
  (∀ (s : State) (l : Link),
      (s.withFrame l).link l = { s.link l with rx := .hunt, gap := none, waiting := none }
        ∧ (∀ m, m ≠ l → (s.withFrame l).link m = s.link m)
        ∧ (s.withFrame l).device = { s.device with
            dormancy := s.device.dormancy.map fun _ => 0
            ownerIdle := if s.device.state = .config ∧ s.device.owner = some l then some 0 else s.device.ownerIdle }
        ∧ s.withFrame l = { s with links := (s.withFrame l).links, device := (s.withFrame l).device })
    ∧ ∀ (s : State) (c : Instr) (r : RequestRow), c.request? = some r → s.pins.resetbLow = false →
      ((s.link r.link).role = .absent →
          exec c s = .next (s.setLink r.link { s.link r.link with rx := .hunt, gap := none }))
        ∧ ((s.link r.link).role ≠ .absent → s.device.state = .dormant → exec c s = .next (s.wake true).finish)
        ∧ ((s.link r.link).role ≠ .absent → s.device.state ≠ .dormant →
          ∀ w, (s.link r.link).waiting = some w → w.restarts = true → exec c s = .next (s.resetPart .restart))

/-- A request that the sender's role does not permit is answered REFUSED_ROLE; in STARTUP every permitted one, except STATUS,
RESET_CAUSE and one with an unknown code, is answered REFUSED_STATE. Neither has another effect. -/
def Obligations.RequestsAreChecked : Prop :=
  ∀ (s : State) (c : Instr) (r : RequestRow), c.request? = some r → s.takesFrame r.link = true →
    (r.who.allows (s.link r.link).role = false →
        exec c s = .next ((s.withFrame r.link).replied r.link r.code r.tag .refusedRole []))
      ∧ (r.who.allows (s.link r.link).role = true → s.device.state = .startup → r.inStartup = false →
          exec c s = .next ((s.withFrame r.link).replied r.link r.code r.tag .refusedState []))

/-- A request other than CONFIG_WRITE that is taken leaves the pins, the inputs, the sensors, the battery's samples, the
counter, the waiting commands, the tables and the other links alone. -/
def Obligations.RequestFrame : Prop :=
  ∀ (s t : State) (c : Instr) (r : RequestRow), c.request? = some r → (∀ l tag ps, c ≠ .configWrite l tag ps) →
    s.takesFrame r.link = true → exec c s = .next t →
    t.pins = s.pins ∧ t.inputs = s.inputs ∧ t.captures = s.captures ∧ t.supply = s.supply ∧ t.counter = s.counter
      ∧ t.pending = s.pending ∧ t.tables = s.tables ∧ ∀ m, m ≠ r.link → t.link m = s.link m

/-- STATUS, FAULTS, CONFIG_READ and an unknown request change nothing but the reply that waits; the 53 bytes of the STATUS
record show the state field by field; RESET_CAUSE answers with the link's set as it stands and then empties that set alone. One
whose parameters are not those of its row is BAD_PARAM, and FAULTS and CONFIG_READ are REFUSED_STATE in STARTUP. -/
def Obligations.ReadingRequests : Prop :=
  ∀ (s : State) (l : Link) (tag : Byte), s.admits l everyRole →
    exec (.status l tag []) s = .next ((s.withFrame l).replied l 0x01 tag .accepted (s.withFrame l).statusRecord)
      ∧ (s.withFrame l).statusRecord.length = 53 ∧ (s.withFrame l).StatusIs (s.withFrame l).statusRecord
      ∧ (∀ code ps, exec (.unknownRequest l code tag ps) s
          = .next ((s.withFrame l).replied l code tag .unknownRequest []))
      ∧ (s.device.state ≠ .startup → ∀ n : Byte, exec (.faults l tag [n]) s
          = .next (if n.toNat ≤ 15 then (s.withFrame l).replied l 0x02 tag .accepted
              ([byte s.faults.entries.length, byte n.toNat]
                ++ ((s.faults.entries.drop n.toNat).take 8).flatMap FaultEntry.bytes)
            else (s.withFrame l).replied l 0x02 tag .badParam []))
      ∧ (∀ e : FaultEntry, e.bytes = [byte e.kind.code, byte e.subject.code,
          if e.active then (if e.acked then 3 else 1) else (if e.acked then 2 else 0), byte e.count])
      ∧ (cabService.allows (s.link l).role = true → s.awake = true → ∀ (table index : Byte) (r : Record),
          s.tables.record table index = some r →
          exec (.configRead l tag [table, index]) s = .next ((s.withFrame l).replied l 0x52 tag .accepted r.bytes))
      ∧ exec (.resetCause l tag []) s
          = .next (((s.withFrame l).setLink l { (s.withFrame l).link l with causes := noCauses }).replied l 0x03 tag
              .accepted [byteOfFlags (s.link l).causes])
      ∧ ∀ ps : List Byte,
        let refuses := fun (c : Instr) (code : Byte) (r : Result) => exec c s = .next ((s.withFrame l).replied l code tag r [])
        (ps ≠ [] → refuses (.status l tag ps) 0x01 .badParam ∧ refuses (.resetCause l tag ps) 0x03 .badParam)
          ∧ (s.device.state = .startup → refuses (.faults l tag ps) 0x02 .refusedState)
          ∧ (s.device.state ≠ .startup → ps.length ≠ 1 → refuses (.faults l tag ps) 0x02 .badParam)
          ∧ (cabService.allows (s.link l).role = true →
            (s.awake = false → refuses (.configRead l tag ps) 0x52 .refusedState)
              ∧ (s.awake = true → (∀ table index, ps = [table, index] → s.tables.record table index = none) →
                refuses (.configRead l tag ps) 0x52 .badParam))

/-- Discarded characters move the receive state and the gap timer; a framing error and the gap timer discard the partial frame.
A waiting reply starts when none is being sent; when the one being sent ends the waiting one starts; a start bit drops the
one that waits. -/
def Obligations.LineEvents : Prop :=
  ∀ (s : State) (l : Link), s.pins.resetbLow = false → s.device.state ≠ .dormant →
    (∀ cs : List Byte, cs ≠ [] → ∀ rx, Rx.run (s.link l).rx cs = rx →
        exec (.frameDiscarded l cs) s
          = .next (s.setLink l { s.link l with rx := rx, gap := if rx = .hunt then none else some 0 }))
      ∧ exec (.framingError l) s = .next (s.setLink l { s.link l with rx := .hunt, gap := none })
      ∧ (∀ v, (s.link l).gap = some v → 5000 ≤ v →
          exec (.gapTimerExpiry l) s = .next (s.setLink l { s.link l with rx := .hunt, gap := none }).finishEvent)
      ∧ (∀ w, (s.link l).waiting = some w → (s.link l).sending = none →
          exec (.replyStart l) s = .next (s.setLink l { s.link l with sending := some w, waiting := none }).finishEvent)
      ∧ (∀ w, (s.link l).sending = some w → w.restarts = false →
          exec (.replySent l) s
            = .next (s.setLink l { s.link l with sending := (s.link l).waiting, waiting := none }).finishEvent)
      ∧ (∀ w, (s.link l).waiting = some w → w.restarts = false →
          exec (.replyDropped l) s = .next (s.setLink l { s.link l with waiting := none }).finishEvent)

/-! ### Resets and roles -/

/-- The blocks of a part right after a POWER-ON reset, with its pins, its queue and the free level of the floating pins kept
from `s` (the model's own records among them: logs 8 to 12). -/
def Obligations.PowerOnResets : Prop :=
  ∀ s : State, s.pins.resetbLow = false →
    exec .powerOnReset s = .next { State.reset with
      pins := s.pins
      links := Table.ofFn fun l => resetLink (rolePlan s.pins.strap1 s.pins.strap0 l) powerOnCauses
      inputs := Table.ofFn fun i =>
        ⟨(s.inputs.get i).drive,
          pinLevel (s.inputs.get i).drive (defaultInput (Input.ofIx i)).bias (Config.floatingLevel s.draws), none, some 0⟩
      draws := s.draws + 1
      pending := s.pending }

/-- RESETB low resets every block, keeps the pins, the roles and the waiting commands, and adds PIN to what each link's
reset-cause set held; its release latches the straps and changes nothing else (the model's own records among them: logs 8 to
12). -/
def Obligations.PinResets : Prop :=
  ∀ s : State,
    (s.pins.resetbLow = false →
        exec .pinReset s = .next { State.reset with
          pins := { s.pins with resetbLow := true }
          links := Table.ofFn fun l => resetLink (s.link l).role ((s.link l).causes.set ResetKind.pin.ix true)
          inputs := Table.ofFn fun i =>
            ⟨(s.inputs.get i).drive,
              pinLevel (s.inputs.get i).drive (defaultInput (Input.ofIx i)).bias (Config.floatingLevel s.draws), none,
              some 0⟩
          draws := s.draws + 1
          pending := s.pending })
      ∧ (s.pins.resetbLow = true → exec .resetbRelease s = .next { s with
          pins := { s.pins with resetbLow := false }
          links := Table.ofFn fun l =>
            { s.link l with role := rolePlan s.pins.strap1 s.pins.strap0 l } })

/-- RESTART is accepted, but in STARTUP (REFUSED_STATE) and with parameters (BAD_PARAM), and the reset follows its reply, sent or
dropped. A BROWN-OUT, a CLOCK and a RESTART reset return every
block to its reset values, keep the pins and the waiting commands, give each link the role the straps select, and add their
kind to its causes. -/
def Obligations.RestartFollowsItsReply : Prop :=
  ∀ (s : State) (l : Link) (tag : Byte),
    (s.admits l serviceOnly → s.device.state ≠ .startup →
        exec (.restart l tag []) s = .next ((s.withFrame l).replied l 0x5F tag .accepted [] true))
      ∧ (∀ ps, s.admits l serviceOnly →
        (s.device.state = .startup → exec (.restart l tag ps) s = .next ((s.withFrame l).replied l 0x5F tag .refusedState []))
          ∧ (s.device.state ≠ .startup → ps ≠ [] →
            exec (.restart l tag ps) s = .next ((s.withFrame l).replied l 0x5F tag .badParam [])))
      ∧ (∀ w, s.pins.resetbLow = false → w.restarts = true →
          ((s.link l).sending = some w → exec (.replySent l) s = .next (s.resetPart .restart).finishEvent)
            ∧ ((s.link l).waiting = some w → exec (.replyDropped l) s = .next (s.resetPart .restart).finishEvent))
      ∧ (s.resetPart .restart).tables = defaultTables
      ∧ (∀ m, ((s.resetPart .restart).link m).causes = (s.link m).causes.set ResetKind.restart.ix true)
      ∧ ∀ k, k ∈ [ResetKind.brownOut, .clock, .restart] →
          s.resetPart k = { State.reset with
            pins := s.pins
            links := Table.ofFn fun m =>
              resetLink (rolePlan s.pins.strap1 s.pins.strap0 m) ((s.link m).causes.set k.ix true)
            inputs := Table.ofFn fun i =>
              ⟨(s.inputs.get i).drive,
                pinLevel (s.inputs.get i).drive (defaultInput (Input.ofIx i)).bias (Config.floatingLevel s.draws), none,
                some 0⟩
            draws := s.draws + 1
            pending := s.pending }

/-- No command gives a link a role but one that ends a reset: RESETB's release, or a command after which the part stands reset,
in STARTUP with the default tables, its counter at 0 and one reset kind among every link's causes. It gives every link its role
of the plan that the straps select then; the four plans are those of the table. -/
def Obligations.RolesAreLatched : Prop :=
  (∀ (s t : State) (c : Instr), exec c s = .next t →
      (∀ l, (t.link l).role = (s.link l).role)
        ∨ ((∀ l, (t.link l).role = rolePlan s.pins.strap1 s.pins.strap0 l)
          ∧ (c = .resetbRelease
            ∨ (t.device.state = .startup ∧ t.tables = defaultTables ∧ t.counter = 0
              ∧ ∃ k : ResetKind, ∀ l, (t.link l).causes.get k.ix = true))))
    ∧ (List.finRange 4).map (rolePlan false false) = [.cab, .rear, .kerb, .service]
    ∧ (List.finRange 4).map (rolePlan false true) = [.cab, .rear, .rear, .service]
    ∧ (List.finRange 4).map (rolePlan true false) = [.cab, .rear, .kerb, .kerb]
    ∧ (List.finRange 4).map (rolePlan true true) = [.cab, .rear, .absent, .service]

/-! ### Motions -/

/-- A HOLD that passes every check at an IDLE slot puts it in WAITING with the link as its holder, at the end of the call
list. -/
def Obligations.HoldStarts : Prop :=
  ∀ (s : State) (l : Link) (tag x y : Byte) (a : Actuator) (k : Stroke), motionOfBytes x y = some (a, k) →
    s.admits l (holdPermission [x, y]) → s.device.state = .ready → (s.policy a k).hold = true →
    (s.slot a).state = .idle → s.strokeMapped a k = true → s.ready a k = true → s.cond .parked = true →
    s.cond .standstill = true → s.cond .estopClear = true →
    (s.endTestValid a && s.endTest a k ((s.takenTarget a k none).getD 0)) = false →
    exec (.hold l tag [x, y]) s = .next
      (((({ s.withFrame l with arbiter := { s.arbiter with callList := s.arbiter.callList ++ [a] } }).setSlot a
          { s.slot a with
            state := .waiting, stroke := some k, target := s.takenTarget a k none
            holders := LinkTimers.none.set l (some 0), owner := none, runTimer := 0
            need := s.requirement a k none }).push .round).finish.replied l 0x10 tag .accepted [])

/-- A HOLD at a slot that is not IDLE: BUSY where the motion has an owner, joined or refreshed on the same stroke, ended with
CONFLICT on the opposite one, watched and BUSY in SETTLING, watched and CONFLICT in BLOCKED. -/
def Obligations.HoldAtABusySlot : Prop :=
  ∀ (s : State) (l : Link) (tag x y : Byte) (a : Actuator) (k : Stroke), motionOfBytes x y = some (a, k) →
    s.admits l (holdPermission [x, y]) → s.device.state = .ready → (s.policy a k).hold = true →
    let u := s.withFrame l
    let held := (s.slot a).state = .waiting ∨ (s.slot a).state.granted = true ∧ (s.slot a).state ≠ .settling
    (held → (s.slot a).owner ≠ none → exec (.hold l tag [x, y]) s = .next (u.replied l 0x10 tag .busy []))
      ∧ (held → (s.slot a).owner = none → (s.slot a).stroke = some k →
          exec (.hold l tag [x, y]) s = .next
            ((u.setSlot a { s.slot a with holders := (s.slot a).holders.set l (some 0) }).replied l 0x10 tag .accepted []))
      ∧ ((s.slot a).state = .settling →
          exec (.hold l tag [x, y]) s = .next
            ((u.setSlot a { s.slot a with watch := (s.slot a).watch.set l (some 0) }).replied l 0x10 tag .busy []))
      ∧ ((s.slot a).state = .blocked →
          exec (.hold l tag [x, y]) s = .next
            ((u.setSlot a { s.slot a with watch := (s.slot a).watch.set l (some 0) }).replied l 0x10 tag .conflict []))
      ∧ (held → (s.slot a).owner = none → (s.slot a).stroke ≠ some k →
          exec (.hold l tag [x, y]) s = .next
            (((u.setSlot a { s.slot a with holders := (s.slot a).holders.set l (some 0) }).complete a
              .conflict).finish.replied l 0x10 tag .conflict []))

/-- The checks of a request for a motion, in their order, for MOVE and HOLD, and the first that fails answers without effect; a
request whose bytes give no actuator and stroke is BAD_PARAM in READY. Which functions a stroke uses, when they are mapped, and
when its end test passes. -/
def Obligations.MotionRefusals : Prop :=
  (∀ (s : State) (l : Link) (tag : Byte) (ps : List Byte) (a : Actuator) (k : Stroke) (target : Option Nat),
      moveOfBytes ps = some (a, k, target) → s.admits l cabOnly → s.device.state ≠ .startup →
      ∀ r : Result,
        r = (if s.device.state ≠ .ready then .refusedState
          else if (s.policy a k).run = false ∨ (target ≠ none ∧ a.hatch? ≠ none) then .badParam
          else if (s.slot a).state ≠ .idle then .busy
          else if s.strokeMapped a k = false then .notConfigured
          else if s.ready a k = false ∨ s.cond .parked = false ∨ s.cond .standstill = false ∨ s.cond .estopClear = false then
            .blocked
          else if s.endTestValid a = true ∧ s.endTest a k ((s.takenTarget a k target).getD 0) = true then .atLimit
          else .accepted) →
        r ≠ .accepted → exec (.move l tag ps) s = .next ((s.withFrame l).replied l 0x12 tag r []))
    ∧ (∀ (s : State) (l : Link) (tag x y : Byte) (a : Actuator) (k : Stroke), motionOfBytes x y = some (a, k) →
      s.admits l (holdPermission [x, y]) → s.device.state ≠ .startup →
      ∀ r : Result,
        r = (if s.device.state ≠ .ready then .refusedState
          else if (s.policy a k).hold = false then .badParam
          else if (s.slot a).state ≠ .idle then .accepted
          else if s.strokeMapped a k = false then .notConfigured
          else if s.ready a k = false ∨ s.cond .parked = false ∨ s.cond .standstill = false ∨ s.cond .estopClear = false then
            .blocked
          else if s.endTestValid a = true ∧ s.endTest a k ((s.takenTarget a k none).getD 0) = true then .atLimit
          else .accepted) →
        r ≠ .accepted → exec (.hold l tag [x, y]) s = .next ((s.withFrame l).replied l 0x10 tag r []))
    ∧ (∀ (s : State) (l : Link) (tag : Byte) (ps : List Byte), s.device.state = .ready →
      (moveOfBytes ps = none → s.admits l cabOnly →
          exec (.move l tag ps) s = .next ((s.withFrame l).replied l 0x12 tag .badParam []))
        ∧ ((∀ x y, ps = [x, y] → motionOfBytes x y = none) → s.admits l (holdPermission ps) →
          exec (.hold l tag ps) s = .next ((s.withFrame l).replied l 0x10 tag .badParam [])))
    ∧ (∀ (s : State) (a : Actuator) (k : Stroke),
      s.strokeMapped a k = true ↔ ∀ f ∈ strokeFuncs a k, ∃ c, ∀ d, s.tables.outputMap.get d = some f ↔ d = c)
    ∧ strokeFuncs .lift .powered = [.pump] ∧ strokeFuncs .lift .ret = [.lower]
    ∧ strokeFuncs .tilt .powered = [.pump, .tiltv] ∧ strokeFuncs .tilt .ret = [.tiltv]
    ∧ strokeFuncs .khatch .powered = [.pump, .divert, .khatchv] ∧ strokeFuncs .khatch .ret = [.khatchv]
    ∧ strokeFuncs .ohatch .powered = [.pump, .divert, .ohatchv] ∧ strokeFuncs .ohatch .ret = [.ohatchv]
    ∧ ∀ (s : State) (target : Nat),
        let h := (s.capture .height).reported
        let v := (s.capture .tilt).reported
        (s.endTestValid .lift = (s.capture .height).valid ∧ s.endTestValid .tilt = (s.capture .tilt).valid
            ∧ s.endTestValid .khatch = true ∧ s.endTestValid .ohatch = true)
          ∧ (s.endTest .lift .powered target = true ↔ target ≤ h + s.tables.scaling.sbH)
          ∧ (s.endTest .lift .ret target = true ↔
              h ≤ target + s.tables.scaling.sbH ∨ (target = 0 ∧ s.cond .atGround = true))
          ∧ (s.endTest .tilt .powered target = true ↔ target ≤ v + s.tables.scaling.sbT)
          ∧ (s.endTest .tilt .ret target = true ↔ v ≤ target + s.tables.scaling.sbT)
          ∧ (s.endTest .khatch .powered target = true ↔ s.hatchPos .kerbside = .opened)
          ∧ (s.endTest .khatch .ret target = true ↔ s.hatchPos .kerbside = .shut)
          ∧ (s.endTest .ohatch .powered target = true ↔ s.hatchPos .offside = .opened)
          ∧ (s.endTest .ohatch .ret target = true ↔ s.hatchPos .offside = .shut)

/-- A MOVE that passes every check puts the slot in WAITING with the link as its owner and the target brought to its limit; without
one the target is the limit for a powered stroke and 0 for a return stroke, and a hatch has none. The requirement set is the
base set, the policy's own conditions and a step's gate. -/
def Obligations.MoveStarts : Prop :=
  (∀ (s : State) (l : Link) (tag : Byte) (ps : List Byte) (a : Actuator) (k : Stroke) (target : Option Nat),
      moveOfBytes ps = some (a, k, target) → s.admits l cabOnly → s.device.state = .ready → (s.policy a k).run = true →
      (target = none ∨ a.hatch? = none) → (s.slot a).state = .idle → s.strokeMapped a k = true → s.ready a k = true →
      s.cond .parked = true → s.cond .standstill = true → s.cond .estopClear = true →
      (s.endTestValid a && s.endTest a k ((s.takenTarget a k target).getD 0)) = false →
      exec (.move l tag ps) s = .next
        (((({ s.withFrame l with arbiter := { s.arbiter with callList := s.arbiter.callList ++ [a] } }).setSlot a
            { s.slot a with
              state := .waiting, stroke := some k, target := s.takenTarget a k target
              holders := LinkTimers.none, owner := some (.link l), runTimer := 0
              need := s.requirement a k none }).push .round).finish.replied l 0x12 tag
          (if s.targetClamped a target then .clamped else .accepted) []))
    ∧ (∀ (s : State) (k : Stroke) (t : Nat),
        s.takenTarget .lift k (some t) = some (min t s.tables.scaling.hbed)
          ∧ s.takenTarget .tilt k (some t) = some (min t s.tables.scaling.tclose)
          ∧ s.takenTarget .lift .powered none = some s.tables.scaling.hbed ∧ s.takenTarget .lift .ret none = some 0
          ∧ s.takenTarget .tilt .powered none = some s.tables.scaling.tclose ∧ s.takenTarget .tilt .ret none = some 0
          ∧ (∀ a, a.hatch? ≠ none → s.takenTarget a k (some t) = none ∧ s.takenTarget a k none = none)
          ∧ (s.targetClamped .lift (some t) = true ↔ s.tables.scaling.hbed < t)
          ∧ (s.targetClamped .tilt (some t) = true ↔ s.tables.scaling.tclose < t))
    ∧ ∀ (s : State) (a : Actuator) (k : Stroke) (gate : Option Gate) (c : Cond),
        (s.requirement a k gate).has c = true ↔
          baseSet a k c = true ∨ (s.policy a k).extra.has c = true ∨ (gate = some .gate0 ∧ c = .gate0)
            ∨ (gate = some .gate1 ∧ c = .gate1)

/-- A RELEASE takes the link out of the holders, and the last one's ends the motion with RELEASED; otherwise out of the watch
set, and the last one's frees a BLOCKED slot; otherwise it does nothing. Each is ACCEPTED. Outside READY it is REFUSED_STATE,
and without an actuator BAD_PARAM. -/
def Obligations.ReleaseLetsGo : Prop :=
  (∀ (s : State) (l : Link) (tag x : Byte) (a : Actuator), Actuator.ofByte x = some a →
    s.admits l (holdPermission [x]) → s.device.state = .ready →
    let u := s.withFrame l
    let h := (s.slot a).holders.set l none
    let w := (s.slot a).watch.set l none
    ((s.slot a).holders.get l ≠ none → LinkTimers.isEmpty h = false →
        exec (.release l tag [x]) s
          = .next ((u.setSlot a { s.slot a with holders := h }).finish.replied l 0x11 tag .accepted []))
      ∧ ((s.slot a).holders.get l ≠ none → LinkTimers.isEmpty h = true →
          exec (.release l tag [x]) s
            = .next (((u.setSlot a { s.slot a with holders := h }).endMotion a .released).finish.replied l 0x11 tag .accepted
                []))
      ∧ ((s.slot a).holders.get l = none → (s.slot a).watch.get l ≠ none →
          exec (.release l tag [x]) s
            = .next ((if (s.slot a).state = .blocked ∧ LinkTimers.isEmpty w = true then
                (u.setSlot a { s.slot a with watch := w, state := .idle }).push (.slotFree a)
              else u.setSlot a { s.slot a with watch := w }).finish.replied l 0x11 tag .accepted []))
      ∧ ((s.slot a).holders.get l = none → (s.slot a).watch.get l = none →
          exec (.release l tag [x]) s = .next (u.replied l 0x11 tag .accepted [])))
    ∧ ∀ (s : State) (l : Link) (tag : Byte) (ps : List Byte), s.admits l (holdPermission ps) →
      (s.device.state ≠ .ready → exec (.release l tag ps) s = .next ((s.withFrame l).replied l 0x11 tag .refusedState []))
        ∧ (s.device.state = .ready → (∀ x, ps = [x] → Actuator.ofByte x = none) →
          exec (.release l tag ps) s = .next ((s.withFrame l).replied l 0x11 tag .badParam []))

/-- A CANCEL ends a motion a link owns with CANCELLED; one a context or a holder keeps is NOT_OWNER; a slot without a motion
takes it without effect. Outside READY it is REFUSED_STATE, and without an actuator BAD_PARAM. -/
def Obligations.CancelEnds : Prop :=
  (∀ (s : State) (l : Link) (tag x : Byte) (a : Actuator), Actuator.ofByte x = some a → s.admits l cabOnly →
    s.device.state = .ready →
    let u := s.withFrame l
    let held := (s.slot a).state = .waiting ∨ (s.slot a).state.granted = true ∧ (s.slot a).state ≠ .settling
    (held → ∀ m, (s.slot a).owner = some (.link m) →
        exec (.cancel l tag [x]) s = .next ((u.endMotion a .cancelled).finish.replied l 0x13 tag .accepted []))
      ∧ (held → (∀ m, (s.slot a).owner ≠ some (.link m)) →
          exec (.cancel l tag [x]) s = .next (u.replied l 0x13 tag .notOwner []))
      ∧ (¬held → exec (.cancel l tag [x]) s = .next (u.replied l 0x13 tag .accepted [])))
    ∧ ∀ (s : State) (l : Link) (tag : Byte) (ps : List Byte), s.admits l cabOnly →
      (s.device.state ≠ .ready → exec (.cancel l tag ps) s = .next ((s.withFrame l).replied l 0x13 tag .refusedState []))
        ∧ (s.device.state = .ready → (∀ x, ps = [x] → Actuator.ofByte x = none) →
          exec (.cancel l tag ps) s = .next ((s.withFrame l).replied l 0x13 tag .badParam []))

/-- A completed end: BLOCKED exactly for a blocking end that finds a holder or a watching link, IDLE otherwise; the outcome
recorded; stroke, target, holders, owner, end class and report-to cleared, the slot's timers but the run timer stopped, and the
profile's with them at the LIFT; grant, pump and call given up, with a round for each; a slot that is free handed on; the outcome
reported, with the slot's new state, to the context that started the motion and to no other; no other slot touched. The slot that
is free is handed on before the step that the report starts (the model's choice, log 36). -/
def Obligations.EndsComplete : Prop :=
  ∀ (s : State) (a : Actuator) (o : Ending), s.SupplyAgrees → o ≠ .none →
    let r := s.slot a
    let t := s.complete a o
    let cls := if r.state = .settling then r.endClass.getD .normal else o.cls
    let outcome := if r.state = .settling then r.outcome else o
    let watchers := r.holders.join r.watch
    let blocked := o ≠ .stopped ∧ cls = .blocking ∧ watchers.isEmpty = false
    let told : Ctx → Prop := fun c =>
      r.owner = some (.ctx c) ∨ ((∀ d, r.owner ≠ some (.ctx d)) ∧ r.reportTo = some c)
    (blocked → (t.slot a).state = .blocked ∧ (t.slot a).watch = watchers)
      ∧ (¬blocked → (t.slot a).state = .idle ∧ (t.slot a).watch = LinkTimers.none)
      ∧ (t.slot a).outcome = outcome
      ∧ (t.slot a).stroke = none ∧ (t.slot a).holders = LinkTimers.none ∧ (t.slot a).owner = none
      ∧ (t.slot a).reportTo = none ∧ (t.slot a).target = none ∧ (t.slot a).u = 0 ∧ (t.slot a).runTimer = r.runTimer
      ∧ (t.slot a).endClass = none ∧ (t.slot a).holdTimer = none ∧ (t.slot a).runDown = none
      ∧ (a = .lift → t.profile = ⟨0, none, none⟩) ∧ (a ≠ .lift → t.profile = s.profile)
      ∧ a ∉ t.arbiter.callList ∧ (∀ c, t.grant c ≠ some a) ∧ t.arbiter.pumpOwner ≠ some a
      ∧ t.prime a = .stopped ∧ (∀ b, b ≠ a → t.slot b = s.slot b)
      ∧ ∃ (u : State) (rounds : List Arrival),
        (∀ c, told c → t = u.judgeReport c a outcome) ∧ ((∀ c, ¬told c) → t = u) ∧ u.contexts = s.contexts
          ∧ (blocked → u.agenda = s.agenda ++ rounds) ∧ (¬blocked → u.agenda = s.agenda ++ rounds ++ [.slotFree a])
          ∧ (rounds = if a ∈ s.arbiter.callList ∨ s.grant a.circuit = some a then [.round] else [])

/-- How an end is taken: at once in WAITING, PRIMING and HOLDING, and in RUNNING when it is immediate or the stroke has no
run-down; through SETTLING otherwise, where the holders become watched links and the owner's context keeps its report; in
SETTLING an end raises the class, and an immediate one then completes it. Which ends settle, and which block. -/
def Obligations.EndsByState : Prop :=
  (∀ (s : State) (a : Actuator) (o : Ending),
    let r := s.slot a
    let runsDown := a = .lift ∨ r.stroke = some .powered
    let raised := { r with endClass := if o.cls = .blocking then some .blocking else r.endClass }
    let settled := fun report : Option Ctx =>
      ({ s with profile := if a = Actuator.lift then { s.profile with overload := none } else s.profile }).setSlot a { r with
        state := .settling, outcome := o, endClass := some o.cls, watch := r.holders.join r.watch
        holders := LinkTimers.none, owner := none, reportTo := report
        runDown := if r.stroke = some Stroke.powered then some 0 else none }
    ((r.state = .idle ∨ r.state = .blocked) → s.endMotion a o = s)
      ∧ ((r.state = .waiting ∨ r.state = .priming ∨ r.state = .holding) → s.endMotion a o = s.complete a o)
      ∧ (r.state = .running → ¬(o.isSettling = true ∧ runsDown) → s.endMotion a o = s.complete a o)
      ∧ (r.state = .running → o.isSettling = true → runsDown →
          (∀ c, r.owner = some (.ctx c) → s.endMotion a o = settled (some c))
            ∧ ((∀ c, r.owner ≠ some (.ctx c)) → s.endMotion a o = settled r.reportTo))
      ∧ (r.state = .settling → o.isSettling = true → s.endMotion a o = s.setSlot a raised)
      ∧ (r.state = .settling → o.isSettling = false → s.endMotion a o = (s.setSlot a raised).complete a o))
    ∧ (∀ o : Ending, o.isSettling = true ↔
        o ∈ [Ending.reached, .released, .lapsed, .cancelled, .timeout, .overload, .lowSupply, .beaconFault])
    ∧ (∀ o : Ending, o.cls = .blocking ↔ o ∈ [Ending.conflict, .interlock, .sensorFault, .driverFault, .pumpFault, .overload,
        .timeout, .lowSupply, .beaconFault, .gateTimeout])
    ∧ ∀ (h w : LinkTimers) (l : Link), (h.join w).get l = if h.get l = none then w.get l else h.get l

/-- A holder's timer at the refresh window takes the link out of the holders, with LAPSED at the last; a watching link's takes
it out of the watch set; a lapse of a holder that an end has moved to the watch set is the watching link's. -/
def Obligations.HoldersAndWatchersLapse : Prop :=
  ∀ (s : State) (a : Actuator) (l : Link) (v : Nat), s.pins.resetbLow = false →
    10000 * s.tables.timing.refresh ≤ v →
    let h := (s.slot a).holders.set l none
    let w := (s.slot a).watch.set l none
    ((s.slot a).holders.get l = some v →
        exec (.holderLapse a l) s
          = .next (if LinkTimers.isEmpty h = true then (s.setSlot a { s.slot a with holders := h }).endMotion a .lapsed
              else s.setSlot a { s.slot a with holders := h }).finishEvent)
      ∧ ((s.slot a).watch.get l = some v →
          exec (.watchLapse a l) s
            = .next (if (s.slot a).state = .blocked ∧ LinkTimers.isEmpty w = true then
                (s.setSlot a { s.slot a with watch := w, state := .idle }).push (.slotFree a)
              else s.setSlot a { s.slot a with watch := w }).finishEvent)
      ∧ ((s.slot a).holders.get l = none → (s.slot a).watch.get l = some v →
          exec (.holderLapse a l) s = exec (.watchLapse a l) s)

/-- The run limit in RUNNING ends with TIMEOUT and posts RUN_TIMEOUT; 5 s of HOLDING end with GATE_TIMEOUT; 100 ms of a
powered stroke's run-down complete its end; 500 ms above the threshold end with OVERLOAD and post it. -/
def Obligations.SlotTimersEnd : Prop :=
  ∀ (s : State) (a : Actuator) (v : Nat), s.pins.resetbLow = false →
    (∀ k, (s.slot a).state = .running → (s.slot a).stroke = some k →
        1000000 * (s.policy a k).runLimit ≤ (s.slot a).runTimer →
        exec (.runLimitExpiry a) s
          = .next ((s.endMotion a .timeout).push (.occurrence .runTimeout (.actuator a))).finishEvent)
      ∧ ((s.slot a).state = .holding → (s.slot a).holdTimer = some v → 5000000 ≤ v →
          exec (.holdTimerExpiry a) s = .next (s.endMotion a .gateTimeout).finishEvent)
      ∧ ((s.slot a).state = .settling → (s.slot a).runDown = some v → 100000 ≤ v →
          exec (.runDownEnd a) s = .next (s.complete a (s.slot a).outcome).finishEvent)
      ∧ (s.profile.overload = some v → 500000 ≤ v →
          exec .overloadExpiry s
            = .next ((s.endMotion .lift .overload).push (.occurrence .overload (.actuator .lift))).finishEvent)

/-- An update of the lowering stroke: REACHED at the end test, otherwise u moves toward the loaded ceiling by at most the
ramp; in SETTLING u falls by r_down until less than u_min + r_down is left, and the end then completes. The coil duty is u
brought to 24 V by the battery average, at most 1000 permille. Every other stroke in RUNNING meets its end test at a change of
its reported value or of its hatch's position, where a hatch's switches are judged too. -/
def Obligations.ProfileUpdates : Prop :=
  (∀ (s : State) (v : Nat), s.pins.resetbLow = false → s.profile.update = some v → 10000 ≤ v →
    let r := s.slot .lift
    let p := s.tables.profile
    let target := r.target.getD 0
    let d := (s.capture .height).reported - target
    let ceiling := if p.zone < d then p.umax else p.umin + (p.umax - p.umin) * d / p.zone
    let loaded := max p.umin (ceiling * max 500 (1000 - p.load * ((s.capture .pressure).reported / 10)) / 1000)
    let next := if r.u ≤ loaded then min loaded (r.u + p.rup) else max loaded (r.u - p.rdown)
    let s1 := { s with profile := { s.profile with update := some 0 } }
    let drive := fun u : Nat =>
      ({ s1 with profile := { s1.profile with uOut := s.coilDuty u } }).setSlot .lift { r with u := u }
    (r.state = .running → s.endTest .lift .ret target = true →
        exec .profileUpdate s = .next (s1.endMotion .lift .reached).finishEvent)
      ∧ (r.state = .running → s.endTest .lift .ret target = false →
          exec .profileUpdate s = .next (drive next).finishEvent)
      ∧ (r.state = .settling → r.u < p.umin + p.rdown →
          exec .profileUpdate s = .next (s1.complete .lift .reached).finishEvent)
      ∧ (r.state = .settling → p.umin + p.rdown ≤ r.u →
          exec .profileUpdate s = .next (drive (r.u - p.rdown)).finishEvent)
      ∧ ∀ u : Nat, s.batteryAverage ≠ 0 → s.coilDuty u = min 1000 (u * 24000 / s.batteryAverage))
    ∧ (∀ (s : State) (a : Actuator) (m : Sensor), (a = .lift ∧ m = .height) ∨ (a = .tilt ∧ m = .tilt) →
      let r := s.slot a
      let target := r.target.getD 0
      (∀ k, r.state = .running → r.stroke = some k → ¬(a = .lift ∧ k = .ret) → s.endTest a k target = true →
          s.take (.reported m) = s.endMotion a .reached)
        ∧ ((r.state ≠ .running ∨ r.stroke = none ∨ ∃ k, r.stroke = some k
            ∧ ((a = .lift ∧ k = .ret) ∨ s.endTest a k target = false)) → s.take (.reported m) = s))
    ∧ ∀ (s : State) (h : Hatch),
      let a := h.actuator
      let r := s.slot a
      let flag := s.permit.switchFault.get h.ix
      let mark := fun b : Bool => { s with permit := { s.permit with switchFault := s.permit.switchFault.set h.ix b } }
      let judged :=
        if s.hatchPos h = .unknown ∧ flag = false then (mark true).push (.occurrence .hatchSwitch (.actuator a))
        else if s.hatchPos h ≠ .unknown ∧ flag = true then (mark false).push (.conditionEnd .hatchSwitch (.actuator a))
        else s
      let ends := r.state = .running ∧ ((r.stroke = some .powered ∧ s.hatchPos h = .opened)
        ∨ (r.stroke = some .ret ∧ s.hatchPos h = .shut))
      (ends → s.take (.hatchMoved h) = judged.endMotion a .reached) ∧ (¬ends → s.take (.hatchMoved h) = judged)

/-- At the prime limit a slot without PUMPRUN fails with PUMP_FAULT and PUMP_NO_RUN, one with it goes on; the stuck watch
posts PUMP_STUCK once. PUMPRUN asserted brings a test of priming; de-asserted it ends the pump owner's RUNNING and the priming
that has passed its limit, and ends PUMP_STUCK. -/
def Obligations.PumpWatches : Prop :=
  (∀ (s : State) (a : Actuator) (v : Nat), s.pins.resetbLow = false →
    ((s.slot a).state = .priming → s.prime a = .running v → 1000 * s.tables.timing.primeLimit ≤ v →
        exec (.primeLimit a) s
          = .next (if s.asserted .pumprun then s.setPrime a .passed
              else (s.endMotion a .pumpFault).push (.occurrence .pumpNoRun .none)).finishEvent)
      ∧ (s.stuck.timer = some v → 500000 ≤ v →
          exec .stuckWatchExpiry s
            = .next (if s.stuck.flag then s
                else ({ s with stuck := { s.stuck with flag := true } }).push (.occurrence .pumpStuck .none)).finishEvent))
    ∧ ∀ s : State,
      let lose := fun a : Actuator =>
        if (s.slot a).state = .running then (s.endMotion a .pumpFault).push (.occurrence .pumpRunLost .none) else s
      let fail := fun (t : State) (a : Actuator) =>
        if (t.slot a).state = .priming ∧ t.prime a = .passed then
          (t.endMotion a .pumpFault).push (.occurrence .pumpNoRun .none) else t
      let failAll := fun t : State => fail (fail (fail (fail t .lift) .tilt) .khatch) .ohatch
      let endStuck := fun t : State =>
        if t.stuck.flag = true then
          ({ t with stuck := { t.stuck with flag := false } }).push (.conditionEnd .pumpStuck .none) else t
      (s.asserted .pumprun = true → s.inputChanged .pumprun = s.push .primeTest)
        ∧ (s.asserted .pumprun = false → s.arbiter.pumpOwner = none →
            s.inputChanged .pumprun = endStuck (failAll s))
        ∧ (s.asserted .pumprun = false → ∀ a, s.arbiter.pumpOwner = some a →
            s.inputChanged .pumprun = endStuck (failAll (lose a)))

/-! ### Allocation and conditions -/

/-- A round makes no grant outside READY. In READY it grants only slots that were on the call list, permitted, their circuit
free, and the pump free for a powered stroke; with the pump free the candidates of both circuits are granted, but of two
powered ones only the one of higher priority, the one nearer the front between equals; with the pump owned a candidate is
granted exactly for a return stroke. -/
def Obligations.RoundsGrant : Prop :=
  (∀ s : State, s.device.state ≠ .ready → s.takeRound = s)
    ∧ ∀ s : State, s.SupplyAgrees → s.device.state = .ready →
      let t := s.takeRound
      let granted := fun a : Actuator => (t.slot a).state = .priming ∧ (s.slot a).state ≠ .priming
      (∀ a, granted a →
          a ∈ s.arbiter.callList ∧ s.permitted a = true ∧ s.grant a.circuit = none ∧ t.grant a.circuit = some a
            ∧ (s.isPowered a = true → s.arbiter.pumpOwner = none ∧ t.arbiter.pumpOwner = some a)
            ∧ a ∉ t.arbiter.callList ∧ t.slot a = { s.slot a with state := .priming, holdTimer := none }
            ∧ t.prime a = if s.isPowered a = true then .running 0 else .stopped)
        ∧ (∀ a, ¬granted a → t.slot a = s.slot a)
        ∧ (∀ c, s.candidate c = none → t.grant c = s.grant c)
        ∧ (s.arbiter.pumpOwner = none →
            (∀ a b, s.candidate .liftCircuit = some a → s.candidate .hatchCircuit = some b →
              (s.isPowered a && s.isPowered b) = false) →
            ∀ c a, s.candidate c = some a → t.grant c = some a)
        ∧ (s.arbiter.pumpOwner = none → ∀ a b, s.candidate .liftCircuit = some a → s.candidate .hatchCircuit = some b →
            s.isPowered a = true → s.isPowered b = true →
            ((s.priorityOf b < s.priorityOf a ∨ (s.priorityOf b = s.priorityOf a
                ∧ s.arbiter.callList.idxOf a < s.arbiter.callList.idxOf b)) →
                t.grant .liftCircuit = some a ∧ t.grant .hatchCircuit = none)
              ∧ ((s.priorityOf a < s.priorityOf b ∨ (s.priorityOf a = s.priorityOf b
                ∧ s.arbiter.callList.idxOf b < s.arbiter.callList.idxOf a)) →
                t.grant .liftCircuit = none ∧ t.grant .hatchCircuit = some b))
        ∧ (s.arbiter.pumpOwner ≠ none → ∀ c a, s.candidate c = some a →
            (s.isPowered a = true → t.grant c = none) ∧ (s.isPowered a = false → t.grant c = some a))

/-- The candidate of a free circuit is a permitted slot of it on the call list with the highest priority, the one nearer the
front between equals, and there is one whenever a permitted slot waits; a granted circuit has none. A slot is permitted while
its stroke is ready, its requirement set holds and, for a powered stroke, SUPPLY_NORMAL. -/
def Obligations.CandidatesHavePriority : Prop :=
  (∀ (s : State) (c : Circuit), s.grant c = none →
    (∀ a, s.candidate c = some a → a ∈ s.arbiter.callList ∧ a.circuit = c ∧ s.permitted a = true
        ∧ ∀ b ∈ s.arbiter.callList, b.circuit = c → s.permitted b = true → s.priorityOf b ≤ s.priorityOf a
          ∧ (s.priorityOf b = s.priorityOf a → s.arbiter.callList.idxOf a ≤ s.arbiter.callList.idxOf b))
      ∧ (s.candidate c = none → ∀ b ∈ s.arbiter.callList, b.circuit = c → s.permitted b = false))
    ∧ (∀ (s : State) (c : Circuit), s.grant c ≠ none → s.candidate c = none)
    ∧ ∀ (s : State) (a : Actuator),
      (s.permitted a = true ↔ ∃ k, (s.slot a).stroke = some k ∧ s.ready a k = true
          ∧ (∀ c, (s.slot a).need.has c = true → s.cond c = true) ∧ (k = .powered → s.cond .supplyNormal = true))
        ∧ ∀ k, (s.slot a).stroke = some k → s.priorityOf a = (s.policy a k).priority

/-- What the loss of a required condition does to a granted slot: a gate pauses PRIMING and RUNNING, a measurement ends with
SENSOR_FAULT, the supply with LOW_SUPPLY on a powered stroke, and the rest with INTERLOCK; the emergency stop, STANDSTILL and
SUPPLY_NORMAL end nothing by themselves. A slot in HOLDING keeps its grant with its functions off, and primes again when its
gates all hold. Each change of a condition reaches every slot, then the contexts, and brings a round; a stroke that becomes not
ready ends a granted motion with the outcome of its cause. -/
def Obligations.LostConditionsEnd : Prop :=
  (∀ (s : State) (a : Actuator), (s.slot a).state.granted = true →
    let lose := fun c => State.loseCondition c s a
    let needs := fun c => (s.slot a).need.has c
    (∀ c, needs c = false → lose c = s)
      ∧ (∀ c, needs c = true → c.isHold = true →
          lose c = if (s.slot a).state = .priming ∨ (s.slot a).state = .running then s.enterHolding a else s)
      ∧ (∀ c, needs c = true → c = .heightValid ∨ c = .tiltValid ∨ c = .pressureValid → lose c = s.endMotion a .sensorFault)
      ∧ (needs .supplyUsable = true → lose .supplyUsable
          = s.endMotion a (if (s.slot a).stroke = some .powered then .lowSupply else .interlock))
      ∧ (∀ c, c = .estopClear ∨ c = .standstill ∨ c = .supplyNormal → lose c = s)
      ∧ (∀ c, needs c = true → c ∈ [Cond.parked, .ignitionOn, .stowed, .atGround, .liftAtBed, .khShut, .khOpen, .ohShut,
            .ohOpen] → lose c = s.endMotion a .interlock))
    ∧ (∀ (s : State) (a : Actuator) (c : Cond), (s.slot a).state.granted = false → State.loseCondition c s a = s)
    ∧ (∀ st : SlotState, st.granted = true ↔ st ∈ [SlotState.priming, .running, .holding, .settling])
    ∧ (∀ c : Cond, c.isHold = true ↔ c = .gate0 ∨ c = .gate1)
    ∧ (∀ (s : State) (a : Actuator),
      let r := s.slot a
      let back := ∀ c, c.isHold = true → r.need.has c = true → s.cond c = true
      s.enterHolding a
          = (({ s with profile := if a = Actuator.lift then ⟨0, none, none⟩ else s.profile }).setSlot a { r with
              state := .holding, holdTimer := some 0, u := 0 }).setPrime a .stopped
        ∧ (r.state = .holding → back → s.regainGate a
            = ((s.setSlot a { r with state := .priming, holdTimer := none }).setPrime a
                (if r.stroke = some .powered then .running 0 else .stopped)).push .primeTest)
        ∧ ((r.state ≠ .holding ∨ ¬back) → s.regainGate a = s))
    ∧ (∀ (s : State) (c : Cond),
      let lost := [Actuator.lift, .tilt, .khatch, .ohatch].foldl (State.loseCondition c) s
      let back := if c.isHold = true then [Actuator.lift, .tilt, .khatch, .ohatch].foldl State.regainGate s else s
      let told := fun u : State => (u.contextCondition 0 c).contextCondition 1 c
      s.take (.condition c true) = (told back).push .round
        ∧ s.take (.condition c false)
          = (if c = .standstill ∨ c = .stowed then (told lost).push .movement else told lost).push .round)
    ∧ ∀ (s : State) (a : Actuator) (k : Stroke) (cause : Cause),
      let o := match cause with
        | .tripped | .driverEntry => Ending.driverFault
        | .lampFailed => .beaconFault
        | .sensorEntry => .sensorFault
        | .hatchSwitch | .pumpStuck | .fullFlag | .unmapped => .interlock
      s.take (.readiness a k none) = s.push .round
        ∧ s.take (.readiness a k (some cause))
          = (if (s.slot a).stroke = some k ∧ (s.slot a).state.granted = true then s.endMotion a o else s).push .round

/-- The base set of every stroke, and SUPPLY_NORMAL, which is in none and which a grant of a powered stroke requires. -/
def Obligations.BaseSets : Prop :=
  (∀ c, baseSet .lift .powered c = true ↔
      c ∈ [Cond.parked, .standstill, .estopClear, .supplyUsable, .heightValid, .pressureValid])
    ∧ (∀ c, baseSet .lift .ret c = true ↔ c ∈ [Cond.parked, .standstill, .estopClear, .heightValid, .pressureValid])
    ∧ (∀ c, baseSet .tilt .powered c = true ↔ c ∈ [Cond.parked, .standstill, .estopClear, .supplyUsable, .tiltValid])
    ∧ (∀ c, baseSet .tilt .ret c = true ↔ c ∈ [Cond.parked, .standstill, .estopClear, .tiltValid])
    ∧ (∀ a c, a = .khatch ∨ a = .ohatch →
        (baseSet a .powered c = true ↔ c ∈ [Cond.parked, .standstill, .estopClear, .supplyUsable]))
    ∧ (∀ a c, a = .khatch ∨ a = .ohatch →
        (baseSet a .ret c = true ↔ c ∈ [Cond.parked, .standstill, .estopClear]))
    ∧ (∀ s : State, ∀ a, s.isPowered a = true → s.permitted a = true → s.cond .supplyNormal = true)

/-! ### Inputs and measurement -/

/-- A change at a pin: the straps and the levels follow it; a digital input that differs from its debounced level starts its
stability timer, one that equals it stops the timer; SPEED's level after its polarity does the same with the glitch filter's; no
debounced level changes. In DORMANT no such timer starts, but the watch on IGN starts at its asserted level and stops away from
it. A pin that nothing drives reads its bias; a
strap, or an input with bias NONE, then reads a free level, whatever that is (the model's choice for the straps, log 9). -/
def Obligations.PinsFollow : Prop :=
  ∀ (s : State) (d : Drive),
    let floating := fun d : Drive => match d with
      | .high => true
      | .low => false
      | .undriven => Config.floatingLevel s.draws
    exec (.pinLevelChange .strap0 d) s
        = .next { s with pins := { s.pins with strap0 := floating d }, draws := s.draws + 1 }
      ∧ exec (.pinLevelChange .strap1 d) s
        = .next { s with pins := { s.pins with strap1 := floating d }, draws := s.draws + 1 }
      ∧ ∀ i, ∃ t, exec (.pinLevelChange (.input i) d) s = .next t ∧ (t.input i).drive = d
          ∧ (d = .high → (t.input i).level = true) ∧ (d = .low → (t.input i).level = false)
          ∧ (d = .undriven → (s.setup i).bias = .up → (t.input i).level = true)
          ∧ (d = .undriven → (s.setup i).bias = .down → (t.input i).level = false)
          ∧ (d = .undriven → (s.setup i).bias = .none → (t.input i).level = Config.floatingLevel s.draws)
          ∧ (t.input i).debounced = (s.input i).debounced ∧ (∀ j, j ≠ i → t.input j = s.input j)
          ∧ ((t.input i).level = (s.input i).level → (t.input i).timer = (s.input i).timer)
          ∧ (i ≠ .speed → s.device.state ≠ .dormant → (t.input i).level ≠ (s.input i).level →
              (t.input i).timer = if (s.input i).debounced = some (t.input i).level then none else some 0)
          ∧ (i = .speed → s.device.state ≠ .dormant → (t.input i).level ≠ (s.input i).level →
              (t.input i).timer
                = if (s.input i).debounced = some ((s.setup i).polarity.asserts (t.input i).level) then none else some 0)
          ∧ (s.device.state = .dormant → (t.input i).level ≠ (s.input i).level → (t.input i).timer = none)
          ∧ (i = .ign → s.device.state = .dormant → (t.input i).level ≠ (s.input i).level →
              t.device = { s.device with
                ignWatch := if (s.setup i).polarity.asserts (t.input i).level = true then some 0 else none })
          ∧ ((i ≠ .ign ∨ s.device.state ≠ .dormant ∨ (t.input i).level = (s.input i).level) → t.device = s.device)
          ∧ t.slots = s.slots ∧ t.bank = s.bank ∧ t.permit = s.permit ∧ t.tables = s.tables

/-- After 20 ms the debounced level takes the pin level, and the input's readers take it. Where both end switches of a hatch have
reached 20 ms they settle together, whichever of the two events comes, and the position becomes the one that both levels give
now, handed on where it differs from the one before: it passes from SHUT to OPEN without BETWEEN or UNKNOWN (that one event
settles both is DEDUCED, log 41). -/
def Obligations.InputsSettle : Prop :=
  (∀ (s : State) (i : Input) (v : Nat), s.pins.resetbLow = false → i ≠ .speed → (s.input i).timer = some v → 20000 ≤ v →
    let settled := { s.input i with debounced := some (s.input i).level, timer := none }
    let together := fun j => (∃ h : Hatch, (i = h.shutSwitch ∧ j = h.openSwitch) ∨ (i = h.openSwitch ∧ j = h.shutSwitch))
      ∧ ∃ w, (s.input j).timer = some w ∧ 20000 ≤ w
    (∀ j, together j → exec (.debounceSettle i) s
        = .next ((s.setInput j { s.input j with debounced := some (s.input j).level, timer := none }).setInput i
            settled).finishEvent)
      ∧ ((∀ j, ¬together j) → exec (.debounceSettle i) s = .next ((s.setInput i settled).inputChanged i).finishEvent))
    ∧ ∀ (s : State) (h : Hatch) (v w : Nat), s.pins.resetbLow = false → s.awake = true →
      (s.input h.shutSwitch).timer = some v → 20000 ≤ v → (s.input h.openSwitch).timer = some w → 20000 ≤ w →
      let level := fun i => (s.setup i).polarity.asserts (s.input i).level
      let settles := fun (t : State) (i : Input) =>
        t.setInput i { s.input i with debounced := some (s.input i).level, timer := none }
      let u := settles (settles s h.openSwitch) h.shutSwitch
      let now := match level h.shutSwitch, level h.openSwitch with
        | true, false => HatchPos.shut
        | false, true => .opened
        | false, false => .between
        | true, true => .unknown
      exec (.debounceSettle h.shutSwitch) s = .next u.finishEvent
        ∧ exec (.debounceSettle h.openSwitch) s = .next u.finishEvent
        ∧ u.derive.hatchPos h = now
        ∧ (.hatchMoved h ∈ u.derive.agenda ↔ .hatchMoved h ∈ s.agenda ∨ now ≠ s.hatchPos h)

/-- The emergency stop at the Device State Controller: the occurrence is posted once, READY is left for STOPPED, and the end
is posted at the release. -/
def Obligations.EmergencyStops : Prop :=
  ∀ s : State, s.awake = true →
    (s.asserted .estop = true → s.device.estopFlag = false →
        let u := ({ s with device := { s.device with estopFlag := true } }).push (.occurrence .estop .none)
        s.inputChanged .estop = if s.device.state = .ready then u.enterStopped else u)
      ∧ (s.asserted .estop = true → s.device.estopFlag = true →
          s.inputChanged .estop = if s.device.state = .ready then s.enterStopped else s)
      ∧ (s.deasserted .estop = true → s.device.estopFlag = true →
          s.inputChanged .estop
            = ({ s with device := { s.device with estopFlag := false } }).push (.conditionEnd .estop .none))

/-- A SPEED level that has held for 1 ms is taken; a rising edge within 250 ms of the last makes STANDSTILL false and restarts
the quiet timer, a falling one restarts it; 2 s of quiet make STANDSTILL true. -/
def Obligations.SpeedAndQuiet : Prop :=
  ∀ (s : State) (v : Nat), s.pins.resetbLow = false →
    let r := s.input .speed
    let level := (s.setup .speed).polarity.asserts r.level
    let s1 := s.setInput .speed { r with debounced := some level, timer := none }
    (r.timer = some v → 1000 ≤ v → s.awake = true → r.debounced ≠ none → level = true →
        exec .speedEdge s = .next ({ s1 with permit := { s.permit with
          standstill := if s.permit.lastRise.any (fun t => decide (t < 250000)) then false else s.permit.standstill
          lastRise := some 0, quiet := some 0 } }).finishEvent)
      ∧ (r.timer = some v → 1000 ≤ v → s.awake = true → r.debounced ≠ none → level = false →
          exec .speedEdge s = .next ({ s1 with permit := { s.permit with quiet := some 0 } }).finishEvent)
      ∧ (r.timer = some v → 1000 ≤ v → (s.awake = false ∨ r.debounced = none) →
          exec .speedEdge s = .next s1.finishEvent)
      ∧ (s.permit.quiet = some v → 2000000 ≤ v →
          exec .quietTimerExpiry s = .next ({ s with permit := { s.permit with
            standstill := true, lastRise := none, quiet := none } }).finishEvent)

/-- A rising edge opens a period, after closing the one that is open with a good or a bad capture, and restarts the lost timer
outside STARTUP; the first falling edge is recorded; 40 ms without a rising edge lose the sensor, posted once. Which captures
are good and the value they give; what a good and a bad one do to the window, the validity, the reported value and the posts. -/
def Obligations.EdgesMakeCaptures : Prop :=
  (∀ (s : State) (m : Sensor) (v : Nat), s.pins.resetbLow = false → s.device.state ≠ .dormant →
    let r := s.capture m
    let lost := if s.device.state = .startup then r.lost else some 0
    (r.openPeriod = none →
        exec (.captureRisingEdge m) s
          = .next (s.setCapture m { r with openPeriod := some ⟨s.counter, none⟩, lost := lost }).finishEvent)
      ∧ (∀ p, r.openPeriod = some p →
          let c := match s.captureValue m (s.counter - p.rise).toNat (p.fall.map fun f => (f - p.rise).toNat) with
            | some x => s.goodCapture m x
            | none => s.badCapture m
          exec (.captureRisingEdge m) s
            = .next (c.setCapture m { c.capture m with openPeriod := some ⟨s.counter, none⟩, lost := lost }).finishEvent)
      ∧ (∀ rise, r.openPeriod = some ⟨rise, none⟩ →
          exec (.captureFallingEdge m) s
            = .next (s.setCapture m { r with openPeriod := some ⟨rise, some s.counter⟩ }).finishEvent)
      ∧ (r.lost = some v → 40000 ≤ v →
          exec (.lostExpiry m) s
            = .next ((s.setCapture m { r with
                openPeriod := none, window := [], bad := 0, valid := false, lost := none, lostFlag := true }).pushAll
              (if r.lostFlag then [] else [.occurrence .sensorLost (.sensor m)])).finishEvent))
    ∧ (∀ (s : State) (m : Sensor) (span : Nat),
      (m = .height ∧ span = s.tables.scaling.hmax) ∨ (m = .tilt ∧ span = s.tables.scaling.tspan) →
      ∀ period high : Nat,
        let duty := 1000 * high / period
        s.captureValue m period none = none
          ∧ s.captureValue m period (some high)
            = if 1000 ≤ period ∧ period ≤ 10000 ∧ 50 ≤ duty ∧ duty ≤ 950 then
                some (if duty ≤ 100 then 0 else if 900 ≤ duty then span else (duty - 100) * span / 800)
              else none)
    ∧ (∀ (s : State) (period : Nat) (high : Option Nat),
      s.captureValue .pressure period high
        = if 190 ≤ period ∧ period ≤ 1100 then some (min 400 ((1000000 / period - 1000) / 10)) else none)
    ∧ ∀ (s : State) (m : Sensor),
      let r := s.capture m
      (∀ x, r.window.length ≤ 4 →
          let w := if r.window.length = 4 then r.window.drop 1 ++ [x] else r.window ++ [x]
          let average := w.sum / w.length
          let recovers := r.valid = false ∧ w.length = 4 ∧ s.device.state ≠ .startup
          let q := { r with bad := 0, window := w, reported := average, valid := decide (w.length = 4) }
          let moved : List Arrival := if average = r.reported then [] else [.reported m]
          (¬recovers → s.goodCapture m x = (s.setCapture m q).pushAll moved)
            ∧ (recovers → s.goodCapture m x
              = (s.setCapture m { q with rangeFlag := false, lostFlag := false }).pushAll (moved
                ++ (if r.rangeFlag = true then [.conditionEnd .sensorRange (.sensor m)] else [])
                ++ (if r.lostFlag = true then [.conditionEnd .sensorLost (.sensor m)] else []))))
        ∧ (let n := if r.valid = true then r.bad + 1 else min 3 (r.bad + 1)
          let posts := r.rangeFlag = false ∧ s.device.state ≠ .startup
          (n < 3 → s.badCapture m
              = s.setCapture m { r with bad := n, window := if r.valid = true then r.window else [] })
            ∧ (3 ≤ n → posts → s.badCapture m
              = (s.setCapture m { r with bad := n, window := [], valid := false, rangeFlag := true }).push
                (.occurrence .sensorRange (.sensor m)))
            ∧ (3 ≤ n → ¬posts → s.badCapture m = s.setCapture m { r with bad := n, window := [], valid := false }))

/-! ### Device -/

/-- At 100 ms STARTUP ends: STOPPED after a STOPPED part woke or where ESTOP is asserted on a configured part, READY on a
configured part, UNCONFIGURED otherwise; STANDSTILL becomes true, and the dormancy, quiet and lost timers start. A VALID channel
posts the ends of its flags, an INVALID one with three bad captures a new SENSOR_RANGE; the ESTOP flag is settled against the
input; both hatches are judged (ProfileUpdates). They post in the order height, tilt, pressure, ESTOP, hatches (the model's
choice, log 40). -/
def Obligations.StartupEnds : Prop :=
  ∀ (s : State) (v : Nat), s.pins.resetbLow = false → s.device.state = .startup → s.device.startup = some v → 100000 ≤ v →
    let t := s.endStartup
    let posts := fun m : Sensor =>
      let r := s.capture m
      if r.valid = true then
        (if r.rangeFlag = true then [Arrival.conditionEnd .sensorRange (.sensor m)] else [])
          ++ (if r.lostFlag = true then [Arrival.conditionEnd .sensorLost (.sensor m)] else [])
      else if r.bad = 3 ∧ r.rangeFlag = false then [Arrival.occurrence .sensorRange (.sensor m)]
      else []
    let estop :=
      if s.asserted .estop = true ∧ s.device.estopFlag = false then [Arrival.occurrence .estop .none]
      else if s.deasserted .estop = true ∧ s.device.estopFlag = true then [Arrival.conditionEnd .estop .none]
      else []
    exec .startupEnd s = .next t.finishEvent
      ∧ t.device = { s.device with
          state := if s.device.prior = some .stopped then .stopped
            else if s.device.configured then (if s.asserted .estop then .stopped else .ready) else .unconfigured
          startup := none
          prior := none
          dormancy := some 0
          estopFlag := if s.asserted .estop = true then true else if s.deasserted .estop = true then false
            else s.device.estopFlag }
      ∧ t.permit = { s.permit with standstill := true, lastRise := none, quiet := some 0 }
      ∧ (∀ m, t.capture m = { s.capture m with
          lost := some 0
          rangeFlag := if (s.capture m).valid = true then false
            else if (s.capture m).bad = 3 then true else (s.capture m).rangeFlag
          lostFlag := if (s.capture m).valid = true then false else (s.capture m).lostFlag })
      ∧ t.agenda = s.agenda ++ posts .height ++ posts .tilt ++ posts .pressure ++ estop
          ++ [.hatchMoved .kerbside, .hatchMoved .offside]
      ∧ t = { s with captures := t.captures, permit := t.permit, device := t.device, agenda := t.agenda }

/-- A battery sample joins the window of the last eight; a full window below 16,000 mV resets the part, and otherwise gives
the zone; fewer samples change nothing more. The first zone has no hysteresis, a later one has; what a change of it posts (at
the first filling into LOW the occurrence is a free choice, log 21). -/
def Obligations.BatterySamples : Prop :=
  (∀ (s : State) (v : Nat) (mv : BitVec 16), s.pins.resetbLow = false → s.supply.sampleTimer = some v → 10000 ≤ v →
    s.supply.window.length ≤ 8 →
    let w := if s.supply.window.length = 8 then s.supply.window.drop 1 ++ [mv.toNat] else s.supply.window ++ [mv.toNat]
    let s1 := { s with supply := { s.supply with window := w, sampleTimer := some 0 } }
    (w.length < 8 → exec (.batterySample mv) s = .next s1.finishEvent)
      ∧ (w.length = 8 → w.sum / 8 < 16000 → exec (.batterySample mv) s = .next (s1.resetPart .brownOut).finishEvent)
      ∧ (w.length = 8 → 16000 ≤ w.sum / 8 →
          exec (.batterySample mv) s
            = .next (s1.takeZone (if s.supply.defined then nextZone s.supply.zone (w.sum / 8)
                else firstZone (w.sum / 8))).finishEvent))
    ∧ (∀ v : Nat, (22000 ≤ v → firstZone v = .normal) ∧ (19500 ≤ v → v < 22000 → firstZone v = .sag)
      ∧ (v < 19500 → firstZone v = .low))
    ∧ (∀ v : Nat,
      (v < 19500 → nextZone .normal v = .low) ∧ (19500 ≤ v → v < 22000 → nextZone .normal v = .sag)
        ∧ (22000 ≤ v → nextZone .normal v = .normal)
        ∧ (v < 19500 → nextZone .sag v = .low) ∧ (19500 ≤ v → v < 22500 → nextZone .sag v = .sag)
        ∧ (22500 ≤ v → nextZone .sag v = .normal)
        ∧ (v < 20000 → nextZone .low v = .low) ∧ (20000 ≤ v → v < 22500 → nextZone .low v = .sag)
        ∧ (22500 ≤ v → nextZone .low v = .normal))
    ∧ ∀ (s : State) (z : Zone),
      let u := { s with supply := { s.supply with zone := z, defined := true } }
      let round : List Arrival := if z = s.supply.zone then [] else [.round]
      (s.supply.defined = true → z = s.supply.zone → s.takeZone z = u)
        ∧ (s.supply.defined = true → z ≠ s.supply.zone → z = .low →
            s.takeZone z = u.pushAll [.occurrence .lowSupply .none, .round])
        ∧ (s.supply.defined = true → z ≠ s.supply.zone → s.supply.zone = .low →
            s.takeZone z = u.pushAll [.conditionEnd .lowSupply .none, .round])
        ∧ (s.supply.defined = true → z ≠ s.supply.zone → z ≠ .low → s.supply.zone ≠ .low →
            s.takeZone z = u.pushAll [.round])
        ∧ (s.supply.defined = false → z ≠ .low →
            s.takeZone z = u.pushAll (.conditionEnd .lowSupply .none :: round))
        ∧ (s.supply.defined = false → z = .low →
            s.takeZone z = u.pushAll ((if Config.firstLowPosts = true ∧ s.hasEntry .lowSupply .none = false then
              [.occurrence .lowSupply .none] else []) ++ round))

/-- A comparison of the clock monitor more than a quarter off resets the part, another one does not, and one that finds the
oscillator stopped does, whatever the nominal count (the model's constant, log 19); the configuration
owner's 30 s of silence end CONFIG in UNCONFIGURED; at the dormancy delay, as after every event, the part enters DORMANT when
the four conditions of the dormancy test hold. What DORMANT entry leaves of every block. -/
def Obligations.SlowTimers : Prop :=
  (∀ (s : State) (v : Nat), s.pins.resetbLow = false →
    (∀ n, s.supply.clockTimer = some v → 1000 ≤ v →
        exec (.clockComparison n) s
          = .next (if Config.nominalCount < 4 * ((n - Config.nominalCount) + (Config.nominalCount - n)) then
              s.resetPart .clock
            else { s with supply := { s.supply with clockTimer := some 0 } }).finishEvent)
      ∧ (s.supply.clockTimer = some v → 1000 ≤ v →
          exec (.clockComparison 0) s = .next (s.resetPart .clock).finishEvent)
      ∧ (s.device.state = .config → s.device.ownerIdle = some v → 30000000 ≤ v →
          exec .ownerLapse s
            = .next ({ s with device := { s.device with
                state := .unconfigured, owner := none, ownerIdle := none } }).finishEvent)
      ∧ (s.device.dormancy = some v → 60000000 * s.tables.timing.dormancy ≤ v →
          exec .dormancyTimerExpiry s = .next (if s.finish.mayDoze then s.finish.enterDormant else s.finish)))
    ∧ (∀ s : State, s.finishEvent = if s.finish.mayDoze then s.finish.enterDormant else s.finish)
    ∧ (∀ s : State, s.mayDoze = true ↔
      (s.device.state = .ready ∨ s.device.state = .unconfigured ∨ s.device.state = .stopped)
        ∧ s.cond .ignitionOn = false ∧ (∀ a, (s.slot a).state = .idle) ∧ (∀ c, (s.context c).state = .idle)
        ∧ (∀ n, (s.lamp n).motion = .absent ∧ (s.lamp n).manual = none)
        ∧ ∃ v, s.device.dormancy = some v ∧ 60000000 * s.tables.timing.dormancy ≤ v)
    ∧ ∀ s : State, s.enterDormant = { s with
        device := { s.device with
          state := .dormant
          prior := some s.device.state
          dormancy := none
          ignWatch := if (s.setup .ign).polarity.asserts (s.input .ign).level = true then some 0 else none }
        inputs := s.inputs.map fun r => { r with debounced := none, timer := none }
        permit := { s.permit with
          standstill := false
          lastRise := none
          quiet := none
          hatch := Table.fill 2 .between
          conds := Table.fill 18 false }
        captures := s.captures.map fun r =>
          { r with openPeriod := none, window := [], bad := 0, valid := false, lost := none }
        lamps := s.lamps.map fun r =>
          { resetLamp with proven := if r.proven = .failed then .failed else .unknown }
        bank := {
          requests := Table.fill 12 .off
          channels := s.bank.channels.map fun r => if r.drive = .tripped then r else ⟨.off, 0, 0, none, none, false⟩ }
        supply := ⟨[], .low, false, none, none⟩
        stuck := { s.stuck with timer := none }
        links := s.links.map fun r => { r with rx := .hunt, gap := none, sending := none, waiting := none } }

/-- The three wakes begin STARTUP, those by a start bit and by IGN with WAKE driven low, the one by the line without; at 100 ms
the part lets WAKE go. A wake leaves every input UNSETTLED with its stability timer from 0, starts the battery's sampling at
once and the clock monitor from 0 (log 12), and changes nothing else; the capture channels, which take no edge in DORMANT, take
edges again. -/
def Obligations.WakesBeginStartup : Prop :=
  ∀ (s : State) (l : Link) (v : Nat), s.pins.resetbLow = false →
    (s.device.state = .dormant → (s.link l).role ≠ .absent →
        exec (.wakeStartBit l) s = .next (s.wake true).finishEvent)
      ∧ (s.device.state = .dormant → s.device.ignWatch = some v → 20000 ≤ v →
          exec .wakeIgn s = .next (s.wake true).finishEvent)
      ∧ (s.device.state = .dormant → exec .wakeLine s = .next (s.wake false).finishEvent)
      ∧ (s.device.wakeDrive = some v → 100000 ≤ v →
          exec .wakeDriveEnd s = .next ({ s with device := { s.device with wakeDrive := none } }).finishEvent)
      ∧ (s.wake true).device = { s.device with
          state := .startup, startup := some 0, ignWatch := none, wakeDrive := some 0 }
      ∧ (s.wake false).device = { s.device with state := .startup, startup := some 0, ignWatch := none }
      ∧ (∀ b, (∀ i, (s.wake b).input i = { s.input i with debounced := none, timer := some 0 })
          ∧ s.wake b = { s with
              device := (s.wake b).device
              inputs := (s.wake b).inputs
              supply := { s.supply with sampleTimer := some 10000, clockTimer := some 0 } })
      ∧ ∀ m, (s.device.state = .dormant →
            exec (.captureRisingEdge m) s = .next s ∧ exec (.captureFallingEdge m) s = .next s)
          ∧ ∀ b, (s.capture m).openPeriod = none →
            exec (.captureRisingEdge m) (s.wake b)
              = .next ((s.wake b).setCapture m { s.capture m with openPeriod := some ⟨s.counter, none⟩ }).finishEvent

/-- STOP_ALL stops a READY part and is accepted without effect elsewhere; RESUME makes a STOPPED part READY when ESTOP is de-
asserted and the vehicle stands, is BLOCKED otherwise, and is accepted without effect in READY. The movement rule stops a READY
part that rolls unless every slot is IDLE, the platform stowed and both hatches SHUT. STOPPED entry takes every slot to IDLE
with the outcome STOPPED, ends every run with STOPPED, and empties the call list, the grants and the pump ownership. Outside
their states STOP_ALL and RESUME are REFUSED_STATE, and with parameters BAD_PARAM; a RESUME that is both is REFUSED_STATE (the
model's choice, log 15). -/
def Obligations.StopAllAndResume : Prop :=
  (∀ (s : State) (l : Link) (tag : Byte),
    let u := s.withFrame l
    (s.admits l everyRole → s.awake = true →
        exec (.stopAll l tag []) s
          = .next ((if s.device.state = .ready then u.enterStopped.finish else u).replied l 0x40 tag .accepted []))
      ∧ (s.admits l cabRearService → s.device.state = .stopped → s.deasserted .estop = true → s.cond .standstill = true →
          exec (.resume l tag []) s
            = .next (({ u with device := { u.device with state := .ready } }).finish.replied l 0x41 tag .accepted []))
      ∧ (s.admits l cabRearService → s.device.state = .stopped →
          ¬(s.deasserted .estop = true ∧ s.cond .standstill = true) →
          exec (.resume l tag []) s = .next (u.replied l 0x41 tag .blocked []))
      ∧ (s.admits l cabRearService → s.device.state = .ready →
          exec (.resume l tag []) s = .next (u.replied l 0x41 tag .accepted []))
      ∧ ∀ ps,
        (s.admits l everyRole →
          (s.awake = false → exec (.stopAll l tag ps) s = .next (u.replied l 0x40 tag .refusedState []))
            ∧ (s.awake = true → ps ≠ [] → exec (.stopAll l tag ps) s = .next (u.replied l 0x40 tag .badParam [])))
          ∧ (s.admits l cabRearService →
            (s.device.state ≠ .stopped → s.device.state ≠ .ready →
                exec (.resume l tag ps) s = .next (u.replied l 0x41 tag .refusedState []))
              ∧ ((s.device.state = .stopped ∨ s.device.state = .ready) → ps ≠ [] →
                exec (.resume l tag ps) s = .next (u.replied l 0x41 tag .badParam []))))
    ∧ (∀ s : State,
      let rolls := s.device.state = .ready ∧ s.cond .standstill = false
        ∧ ((∃ a, (s.slot a).state ≠ .idle) ∨ s.cond .stowed = false ∨ ∃ h, s.hatchPos h ≠ .shut)
      (rolls → s.take .movement = s.enterStopped.push (.occurrence .vehicleMoved .none))
        ∧ (¬rolls → s.take .movement = s))
    ∧ ∀ s : State,
      let t := s.enterStopped
      (∀ a,
          let r := s.slot a
          (r.state = .idle → t.slot a = r)
            ∧ (r.state = .blocked → t.slot a = { r with state := .idle, watch := LinkTimers.none }
              ∧ .slotFree a ∈ t.agenda)
            ∧ (r.state ≠ .idle → r.state ≠ .blocked → t.slot a = { resetSlot with
                runTimer := r.runTimer, outcome := if r.state = .settling then r.outcome else .stopped }
              ∧ .slotFree a ∈ t.agenda))
        ∧ (∀ c, (s.context c).state = .idle → t.context c = s.context c)
        ∧ (∀ c, (s.context c).state ≠ .idle → t.context c = { s.context c with
            state := .idle, result := .stopped, owner := none, held := false, phase := .none, stepTimer := none
            holdTimer := none, pauseTimer := none })
        ∧ t.arbiter.callList = [] ∧ (∀ a, t.prime a = .stopped)
        ∧ (s.SupplyAgrees → (∀ c, t.grant c = none) ∧ t.arbiter.pumpOwner = none)
        ∧ t.device = { s.device with state := .stopped }
        ∧ (((s.slot .lift).state = .idle ∨ (s.slot .lift).state = .blocked) → t.profile = s.profile)
        ∧ ((s.slot .lift).state ≠ .idle → (s.slot .lift).state ≠ .blocked → t.profile = ⟨0, none, none⟩)
        ∧ t.surroundings = s.surroundings ∧ t.permit = s.permit ∧ t.lamps = s.lamps ∧ t.bank = s.bank
        ∧ t.stuck = s.stuck ∧ t.faults = s.faults

/-- Only RESUME, a commit and the end of STARTUP make the part READY. -/
def Obligations.WhatMakesReady : Prop :=
  ∀ (s t : State) (c : Instr), s.device.state ≠ .ready → exec c s = .next t → t.device.state = .ready →
    (∃ l tag ps, c = .resume l tag ps) ∨ (∃ l tag ps, c = .configCommit l tag ps) ∨ c = .startupEnd

/-! ### Sequences -/

/-- A SEQ_START of a present entry gives the lowest-numbered IDLE context the run and its first step; with none IDLE it is
BUSY. A step start counts the step and tries it, but not outside READY nor as the 65th; a MOTION step posts its motion and
takes the slot's answer, a WAIT step tests its mask; a step that is done follows its link, or ends the run. -/
def Obligations.SequencesStart : Prop :=
  (∀ (s : State) (l : Link) (tag x : Byte) (n : Fin 8) (first : Fin 32), indexOfByte 8 x = some n →
    s.admits l cabRear → s.device.state = .ready → (s.tables.entries.get n).first = some first →
    let u := s.withFrame l
    let start := fun c : Ctx => (u.setContext c { s.context c with
      state := .active, sequence := some n, owner := some l, held := (s.tables.entries.get n).held, started := 0
      result := .none, phase := .none, stepTimer := none
      holdTimer := if (s.tables.entries.get n).held then some 0 else none, pauseTimer := none }).push (.stepStart c first)
    ((s.context 0).state = .idle →
        exec (.seqStart l tag [x]) s = .next ((start 0).finish.replied l 0x20 tag .accepted [0x00]))
      ∧ ((s.context 0).state ≠ .idle → (s.context 1).state = .idle →
          exec (.seqStart l tag [x]) s = .next ((start 1).finish.replied l 0x20 tag .accepted [0x01]))
      ∧ ((s.context 0).state ≠ .idle → (s.context 1).state ≠ .idle →
          exec (.seqStart l tag [x]) s = .next (u.replied l 0x20 tag .busy [])))
    ∧ (∀ (s : State) (c : Ctx) (i : Fin 32),
      let r := s.context c
      (r.state ≠ .active → s.take (.stepStart c i) = s)
        ∧ (r.state = .active → s.device.state ≠ .ready → s.take (.stepStart c i) = s.endRun c .stopped)
        ∧ (r.state = .active → s.device.state = .ready → 64 ≤ r.started →
            s.take (.stepStart c i) = (s.endRun c .overrun).push (.occurrence .sequenceOverrun (.ctx c)))
        ∧ (r.state = .active → s.device.state = .ready → r.started < 64 →
            s.take (.stepStart c i)
              = (s.setContext c { r with started := r.started + 1, step := some i, stepTimer := some 0 }).tryStep c))
    ∧ (∀ (s : State) (c : Ctx) (i : Fin 32), (s.context c).step = some i →
      (∀ m, s.tables.steps.get i = .motion m →
          s.tryStep c = (s.postMotion c m).2.takeAnswer c (s.postMotion c m).1)
        ∧ (∀ w, s.tables.steps.get i = .wait w → (∀ n, w.mask.has n = true → s.cond n = true) →
          s.tryStep c = s.stepDone c true)
        ∧ (∀ w n, s.tables.steps.get i = .wait w → w.mask.has n = true → s.cond n = false →
          s.tryStep c = s.setContext c { s.context c with phase := .conditions })
        ∧ (s.tables.steps.get i = .empty → s.tryStep c = s.stepDone c false))
    ∧ (∀ (s : State) (c : Ctx) (m : MotionStep),
      let a := m.actuator
      let k := m.stroke
      let target := s.takenTarget a k m.target
      let r : Result :=
        if s.device.state ≠ .ready then .refusedState
        else if (s.policy a k).run = false ∨ (m.target ≠ none ∧ a.hatch? ≠ none) then .badParam
        else if (s.slot a).state ≠ .idle then .busy
        else if s.strokeMapped a k = false then .notConfigured
        else if s.ready a k = false ∨ s.cond .parked = false ∨ s.cond .standstill = false ∨ s.cond .estopClear = false then
          .blocked
        else if s.endTestValid a = true ∧ s.endTest a k (target.getD 0) = true then .atLimit
        else if s.targetClamped a m.target = true then .clamped
        else .accepted
      (r ≠ .accepted → r ≠ .clamped → s.postMotion c m = (r, s))
        ∧ (r = .accepted ∨ r = .clamped → s.postMotion c m
          = (r, (({ s with arbiter := { s.arbiter with callList := s.arbiter.callList ++ [a] } }).setSlot a { s.slot a with
              state := .waiting, stroke := some k, target := target, holders := LinkTimers.none
              owner := some (.ctx c), runTimer := 0, need := s.requirement a k m.gate }).push .round)))
    ∧ (∀ (s : State) (c : Ctx) (r : Result),
      (r = .accepted ∨ r = .clamped → s.takeAnswer c r = s.setContext c { s.context c with phase := .inMotion })
        ∧ (r = .busy → s.takeAnswer c r = s.setContext c { s.context c with phase := .slotBusy })
        ∧ (r = .atLimit → s.takeAnswer c r = s.stepDone c true)
        ∧ (r = .refusedState → s.takeAnswer c r = s.endRun c .stopped)
        ∧ (r ∈ [Result.notConfigured, .blocked, .badParam] → s.takeAnswer c r = s.stepDone c false))
    ∧ (∀ (s : State) (c : Ctx) (i : Fin 32) (ok : Bool) (follow : Option (Fin 32)), (s.context c).step = some i →
      ((∃ m, s.tables.steps.get i = .motion m ∧ follow = if ok = true then m.next else m.onFail)
        ∨ ∃ w, s.tables.steps.get i = .wait w ∧ follow = if ok = true then w.next else w.onFail) →
      (∀ j, follow = some j → s.stepDone c ok
          = (s.setContext c { s.context c with phase := .none, stepTimer := none }).push (.stepStart c j))
        ∧ (follow = none → s.stepDone c ok = s.endRun c (if ok = true then .done else .stepFailed)))
    ∧ ∀ (s : State) (c : Ctx) (result : RunResult),
      s.endRun c result = s.setContext c { s.context c with
        state := .idle, result := result, owner := none, held := false, phase := .none, stepTimer := none
        holdTimer := none, pauseTimer := none }

/-- A SEQ_HOLD that passes its checks, by the context's state and its sender: NOT_OWNER from any other link and at an IDLE
context, the hold timer from 0 for a held run, no effect for one that is not held, and a paused run resumes with its current
step. -/
def Obligations.SequenceHolds : Prop :=
  ∀ (s : State) (l : Link) (tag x : Byte) (c : Ctx), indexOfByte 2 x = some c → s.admits l cabRear →
    s.device.state = .ready →
    let u := s.withFrame l
    let r := s.context c
    ((r.owner ≠ some l ∨ r.state = .idle) → exec (.seqHold l tag [x]) s = .next (u.replied l 0x21 tag .notOwner []))
      ∧ (r.owner = some l → r.state = .active → r.held = true →
          exec (.seqHold l tag [x]) s
            = .next ((u.setContext c { r with holdTimer := some 0 }).replied l 0x21 tag .accepted []))
      ∧ (r.owner = some l → r.state = .active → r.held = false →
          exec (.seqHold l tag [x]) s = .next (u.replied l 0x21 tag .accepted []))
      ∧ (r.owner = some l → r.state = .paused →
          exec (.seqHold l tag [x]) s
            = .next (((u.setContext c { r with
                state := .active, pauseTimer := none, holdTimer := some 0, stepTimer := some 0 }).tryStep c).finish.replied l
              0x21 tag .accepted []))

/-- A SEQ_CANCEL that passes its checks: without effect at an IDLE context; from the owner or a CAB link it ends the run with
CANCELLED, with the cancel at the slot of a motion in hand, whose report is not judged; NOT_OWNER from another link. SEQ_START,
SEQ_HOLD and SEQ_CANCEL are REFUSED_STATE outside READY, and BAD_PARAM without a present entry or without a context. -/
def Obligations.SequenceCancels : Prop :=
  (∀ (s : State) (l : Link) (tag x : Byte) (c : Ctx), indexOfByte 2 x = some c → s.admits l cabRear →
    s.device.state = .ready →
    let u := s.withFrame l
    let mine := (s.context c).owner = some l ∨ (s.link l).role = .cab
    ((s.context c).state = .idle → exec (.seqCancel l tag [x]) s = .next (u.replied l 0x22 tag .accepted []))
      ∧ ((s.context c).state ≠ .idle → mine →
          exec (.seqCancel l tag [x]) s
            = .next (((u.endRun c .cancelled).endMotionOf c (s.motionInHand c) .cancelled).finish.replied l 0x22 tag .accepted
              []))
      ∧ ((s.context c).state ≠ .idle → ¬mine →
          exec (.seqCancel l tag [x]) s = .next (u.replied l 0x22 tag .notOwner [])))
    ∧ ∀ (s : State) (l : Link) (tag : Byte) (ps : List Byte), s.admits l cabRear →
      let refuses := fun (c : Instr) (code : Byte) (r : Result) => exec c s = .next ((s.withFrame l).replied l code tag r [])
      (s.device.state ≠ .ready →
          refuses (.seqStart l tag ps) 0x20 .refusedState ∧ refuses (.seqHold l tag ps) 0x21 .refusedState
            ∧ refuses (.seqCancel l tag ps) 0x22 .refusedState)
        ∧ (s.device.state = .ready →
          (∀ x n, ps = [x] → indexOfByte 8 x = some n → (s.tables.entries.get n).first = none) →
          refuses (.seqStart l tag ps) 0x20 .badParam)
        ∧ (s.device.state = .ready → (∀ x, ps = [x] → indexOfByte 2 x = none) →
          refuses (.seqHold l tag ps) 0x21 .badParam ∧ refuses (.seqCancel l tag ps) 0x22 .badParam)

/-- A step's time limit cancels the motion in hand, and fails a step in any other phase; a held run that is not refreshed is
paused with its motion in hand lapsed; 10 s of pause end it. A context judges the reported outcome of its motion in hand; a
slot that becomes free is tried again by the contexts that wait for it, 0 before 1 and before the next step of the context
whose motion ended (the model's choice, log 36); a condition's change tests the WAIT steps whose mask names it. -/
def Obligations.SequenceTimers : Prop :=
  (∀ (s : State) (c : Ctx) (v : Nat), s.pins.resetbLow = false →
    let r := s.context c
    (r.state = .active → r.stepTimer = some v → s.stepLimit c ≤ v → r.phase = .inMotion →
        exec (.stepTimerExpiry c) s
          = .next ((s.setContext c { r with stepTimer := none }).endMotionOf c (s.stepActuator c) .cancelled).finishEvent)
      ∧ (r.state = .active → r.stepTimer = some v → s.stepLimit c ≤ v → r.phase ≠ .inMotion →
          exec (.stepTimerExpiry c) s = .next (s.stepDone c false).finishEvent)
      ∧ (r.state = .active → r.holdTimer = some v → 10000 * s.tables.timing.refresh ≤ v →
          exec (.sequenceLapse c) s
            = .next ((s.setContext c { r with
                state := .paused, phase := .none, stepTimer := none, holdTimer := none
                pauseTimer := some 0 }).endMotionOf c (s.motionInHand c) .lapsed).finishEvent)
      ∧ (r.state = .paused → r.pauseTimer = some v → 10000000 ≤ v →
          exec (.pauseTimerExpiry c) s
            = .next (s.setContext c { r with
                state := .idle, result := .lapsed, owner := none, held := false, phase := .none, stepTimer := none
                holdTimer := none, pauseTimer := none }).finishEvent))
    ∧ (∀ (s : State) (c : Ctx) (i : Fin 32), (s.context c).step = some i →
      (∀ m, s.tables.steps.get i = .motion m → s.stepActuator c = some m.actuator ∧ s.stepLimit c = 100000 * m.limit)
        ∧ (∀ w, s.tables.steps.get i = .wait w → s.stepActuator c = none ∧ s.stepLimit c = 100000 * w.limit))
    ∧ (∀ (s : State) (c : Ctx), s.motionInHand c = if (s.context c).phase = .inMotion then s.stepActuator c else none)
    ∧ (∀ (s : State) (c : Ctx) (o : Ending),
      (∀ a, ((s.slot a).owner = some (.ctx c) → s.endMotionOf c (some a) o = s.endMotion a o)
          ∧ ((s.slot a).owner ≠ some (.ctx c) → s.endMotionOf c (some a) o = s))
        ∧ s.endMotionOf c none o = s)
    ∧ (∀ (s : State) (c : Ctx) (a : Actuator) (o : Ending),
      let r := s.context c
      let mine := r.state = .active ∧ r.phase = .inMotion ∧ s.stepActuator c = some a
      (¬mine → s.judgeReport c a o = s)
        ∧ (mine → o = .stopped → s.judgeReport c a o = s.endRun c .stopped)
        ∧ (mine → o = .reached → s.judgeReport c a o = s.stepDone c true)
        ∧ (mine → o ≠ .stopped → o ≠ .reached → s.judgeReport c a o = s.stepDone c false))
    ∧ (∀ (s : State) (c : Ctx) (a : Actuator),
      (s.waitsForSlot c a = true ↔
          (s.context c).state = .active ∧ (s.context c).phase = .slotBusy ∧ s.stepActuator c = some a)
        ∧ (s.waitsForSlot c a = true → s.slotFree c a = s.tryStep c)
        ∧ (s.waitsForSlot c a = false → s.slotFree c a = s))
    ∧ (∀ (s : State) (a : Actuator), s.take (.slotFree a) = (s.slotFree 0 a).slotFree 1 a)
    ∧ ∀ (s : State) (c : Ctx) (n : Cond),
      let r := s.context c
      let passes := r.state = .active ∧ r.phase = .conditions
        ∧ ∃ i w, r.step = some i ∧ s.tables.steps.get i = .wait w ∧ w.mask.has n = true
          ∧ ∀ x, w.mask.has x = true → s.cond x = true
      (passes → s.contextCondition c n = s.stepDone c true) ∧ (¬passes → s.contextCondition c n = s)

/-! ### Lamps and drivers -/

/-- LAMP SET gives the lamp a manual demand with the pattern given or its own, an on-time below 60 ms brought to 60 ms, which
starts again where MANUAL is in force, in its start phase but for a steady-on pattern, and clears the demand for a pattern of
off; LAMP CLEAR removes it; OUTPUT sets an AUX function's request. Each is refused outside its device states, then for its
parameters, then for a function that is not mapped. At the check of the burst count an on-time below 60 ms with an off-time of 0
counts as steady on (the model's choice, log 37). -/
def Obligations.SwitchingRequests : Prop :=
  ∀ (s : State) (l : Link) (tag : Byte) (ps : List Byte),
    let u := s.withFrame l
    let refuses := fun (c : Instr) (code : Byte) (r : Result) => exec c s = .next (u.replied l code tag r [])
    (∀ o : LampOrder, lampOrderOfBytes ps = some o → s.admits l cabRearKerb → s.servesLamps = true →
        let p := o.pattern.getD (s.lampCfg o.lamp).manual
        let steady := p.on ≠ 0 ∧ p.off = 0 ∧ 0 < o.bursts
        let r := s.lamp o.lamp
        let given := { r with manual := some ⟨⟨max 6 p.on, p.off⟩, o.bursts, o.startOn⟩, bursts := o.bursts }
        let starts := decide (p.off = 0) || o.startOn
        let demand := if r.cls = .manual then { given with
            phaseOn := starts
            phaseTimer := if p.off = 0 then none else some 0
            prove := if starts = false then none else if r.phaseOn = true then r.prove else some 0 }
          else given
        (steady → refuses (.lampSet l tag ps) 0x30 .badParam)
          ∧ (¬steady → s.mapped (lampFunc o.lamp) = false → refuses (.lampSet l tag ps) 0x30 .notConfigured)
          ∧ (¬steady → s.mapped (lampFunc o.lamp) = true → p.on = 0 → exec (.lampSet l tag ps) s
            = .next ((u.setLamp o.lamp { r with manual := none, bursts := 0 }).finish.replied l 0x30 tag .accepted []))
          ∧ (¬steady → s.mapped (lampFunc o.lamp) = true → p.on ≠ 0 → exec (.lampSet l tag ps) s
            = .next ((u.setLamp o.lamp demand).finish.replied l 0x30 tag (if p.on < 6 then .clamped else .accepted) [])))
      ∧ (∀ n : Lamp, clearedLamp ps = some n → s.admits l cabRearKerb → s.servesLamps = true →
          exec (.lampClear l tag ps) s
            = .next ((u.setLamp n { s.lamp n with manual := none, bursts := 0 }).finish.replied l 0x30 tag .accepted []))
      ∧ (∀ f on, outputOfBytes ps = some (f, on) → s.admits l cabService → s.awake = true →
          ((on = true → s.mapped f = true) → exec (.output l tag ps) s
              = .next ((u.setRequest f (if on then .on else .off)).finish.replied l 0x31 tag .accepted []))
            ∧ (on = true → s.mapped f = false → refuses (.output l tag ps) 0x31 .notConfigured))
      ∧ (s.admits l cabRearKerb →
        (s.servesLamps = false →
            refuses (.lampSet l tag ps) 0x30 .refusedState ∧ refuses (.lampClear l tag ps) 0x30 .refusedState)
          ∧ (s.servesLamps = true → lampOrderOfBytes ps = none → refuses (.lampSet l tag ps) 0x30 .badParam)
          ∧ (s.servesLamps = true → clearedLamp ps = none → refuses (.lampClear l tag ps) 0x30 .badParam))
      ∧ (s.admits l cabService →
        (s.awake = false → refuses (.output l tag ps) 0x31 .refusedState)
          ∧ (s.awake = true → outputOfBytes ps = none → refuses (.output l tag ps) 0x31 .badParam))
      ∧ (s.servesLamps = true ↔ s.device.state ∈ [DeviceState.unconfigured, .ready, .stopped])
      ∧ (s.awake = true ↔ s.device.state ∈ [DeviceState.unconfigured, .config, .ready, .stopped])

/-- The end of a phase, whose duration is that of the class in force, turns it over and starts or stops the prove timer, and an
ON phase under MANUAL spends a burst, the last one ending the demand; the end of the trail ends motion demand; the lead time
brings a test of priming. The test lets a slot run whose mapped lamps have all led, the required ones proven, and for a powered
stroke with PUMPRUN; a slot that enters RUNNING opens the lowering valve at u_min, or makes its end test and the LIFT powered
stroke its overload test. -/
def Obligations.LampTimers : Prop :=
  (∀ (s : State) (n : Lamp) (v : Nat), s.pins.resetbLow = false →
    ((s.lamp n).phaseTimer = some v → s.phaseDuration n ≤ v →
        exec (.phaseTimerExpiry n) s = .next (s.setLamp n (s.lamp n).phaseEnd).finishEvent)
      ∧ (let r := s.lamp n
        let lasts := fun p : Pattern => s.phaseDuration n = 10000 * if r.phaseOn = true then p.on else p.off
        let turned := { r with
          phaseOn := !r.phaseOn, phaseTimer := some 0, prove := if r.phaseOn = true ∨ r.cls = .none then none else some 0 }
        let counts := r.phaseOn = true ∧ r.cls = .manual ∧ ∃ m, r.manual = some m ∧ 0 < m.bursts
        (r.cls = .fault → lasts (s.lampCfg n).fault) ∧ (r.cls = .motion → lasts (s.lampCfg n).motion)
          ∧ (∀ m, r.cls = .manual → r.manual = some m → lasts m.pattern)
          ∧ (¬counts → r.phaseEnd = turned)
          ∧ (counts → r.phaseEnd = { turned with
              bursts := r.bursts - 1, manual := if r.bursts ≤ 1 then none else r.manual }))
      ∧ ((s.lamp n).motion = .trail → (s.lamp n).trailTimer = some v →
          1000 * max (s.lampCfg n).trail s.tables.timing.trailBase ≤ v →
          exec (.trailTimerExpiry n) s
            = .next (s.setLamp n { s.lamp n with motion := .absent, trailTimer := none }).finishEvent)
      ∧ ((s.lamp n).lead = some v → 1000 * s.tables.timing.lead ≤ v →
          exec (.leadReached n) s = .next (s.push .primeTest).finishEvent))
    ∧ (∀ s : State, s.take .primeTest
        = (((s.primeTestOf .lift).primeTestOf .tilt).primeTestOf .khatch).primeTestOf .ohatch)
    ∧ (∀ (s : State) (a : Actuator),
      let led := ∀ n : Lamp, (∃ c, ∀ d, s.tables.outputMap.get d = some (lampFunc n) ↔ d = c) →
        (s.lampCfg n).mask.get a.ix = true →
        (∃ v, (s.lamp n).lead = some v ∧ 1000 * s.tables.timing.lead ≤ v)
          ∧ ((s.lampCfg n).required = true → (s.lamp n).proven = .proven)
      let passes := (s.slot a).state = .priming ∧ led
        ∧ ((s.slot a).stroke = some .powered → s.asserted .pumprun = true)
      (passes → s.primeTestOf a = s.enterRunning a) ∧ (¬passes → s.primeTestOf a = s))
    ∧ (∀ (s : State) (a : Actuator) (k : Stroke), (s.slot a).stroke = some k →
      let r := { s.slot a with state := .running }
      let u := (s.setSlot a r).setPrime a .stopped
      let umin := s.tables.profile.umin
      let heavy := s.tables.profile.pover ≤ (s.capture .pressure).reported
      (a = .lift → k = .ret → s.enterRunning a
          = ({ u with profile := ⟨s.coilDuty umin, some 0, none⟩ }).setSlot a { r with u := umin })
        ∧ (¬(a = .lift ∧ k = .ret) → s.endTest a k (r.target.getD 0) = true → s.enterRunning a = u.endMotion a .reached)
        ∧ (a ≠ .lift → s.endTest a k (r.target.getD 0) = false → s.enterRunning a = u)
        ∧ (a = .lift → k = .powered → s.endTest a k (r.target.getD 0) = false →
          (heavy → s.enterRunning a
              = { u with profile := { s.profile with overload := some (s.profile.overload.getD 0) } })
            ∧ (¬heavy → s.enterRunning a = { u with profile := { s.profile with overload := none } })))
    ∧ ∀ s : State,
      let lifts := (s.slot .lift).state = .running ∧ (s.slot .lift).stroke = some .powered
      let heavy := s.tables.profile.pover ≤ (s.capture .pressure).reported
      (lifts → heavy → s.take (.reported .pressure)
          = { s with profile := { s.profile with overload := some (s.profile.overload.getD 0) } })
        ∧ (lifts → ¬heavy → s.take (.reported .pressure) = { s with profile := { s.profile with overload := none } })
        ∧ (¬lifts → s.take (.reported .pressure) = s)

/-- A lamp's proving 50 ms after a turn-on: 100 mA or more on its driven channel passes; UNKNOWN becomes PROVEN, anything but
FAILED fails into FAILED with LAMP_OPEN, a FAILED lamp stays as it is. A lamp that no channel carries makes no test and keeps its
proven state. That a lamp which two map entries name is proven on the channel that carries it (log 45), and that the prove timer
of a lamp which no channel carries stops at its LAMP_PROVE_TEST (log 46), are the model's choices. -/
def Obligations.LampsAreProven : Prop :=
  ∀ (s : State) (n : Lamp) (current v : Nat), s.pins.resetbLow = false → (s.lamp n).lit = true →
    (s.lamp n).prove = some v → 50000 ≤ v →
    let r := { s.lamp n with prove := none }
    let t := s.setLamp n r
    (∀ c, s.Carries c (lampFunc n) →
      let pass := (s.chan c).driven = true ∧ 100 ≤ current
      (r.proven = .failed ∨ (r.proven = .proven ∧ pass) →
          exec (.lampProveTest n current) s = .next t.finishEvent)
        ∧ (r.proven = .unknown → pass →
            exec (.lampProveTest n current) s
              = .next ((t.setLamp n { r with proven := .proven }).push .primeTest).finishEvent)
        ∧ (r.proven ≠ .failed → ¬pass →
            exec (.lampProveTest n current) s
              = .next ((t.setLamp n { r with proven := .failed }).push (.occurrence .lampOpen (.lamp n))).finishEvent))
      ∧ ((∀ c, s.tables.outputMap.get c ≠ some (lampFunc n)) →
          exec (.lampProveTest n current) s = .next t.finishEvent)

/-- A channel's open-load test posts DRIVER_OPEN below 100 mA, but for a channel that carries a lamp; above 8 A a driven
channel trips and posts DRIVER_SHORT; a PWM period begins with the pending duty. That SHORT_TRIP at 8 A or less, or on an
undriven pin, does not come is the model's choice (log 3), and so are the mark of a period that begins after the 50 ms of the
open-load test (log 12) and the prove timer of a channel that carries a lamp, which the test stops (log 42). -/
def Obligations.ChannelTests : Prop :=
  ∀ (s : State) (c : Chan) (current v : Nat), s.pins.resetbLow = false →
    let r := s.chan c
    (r.prove = some v → 50000 ≤ v → (r.drive = .on ∨ (r.drive = .pwm ∧ r.armed = true ∧ r.driven = true)) →
        let t := s.setChan c { r with prove := none, armed := false }
        exec (.openLoadTest c current) s
          = .next (if s.carriesLamp c = false ∧ current < 100 then t.push (.occurrence .driverOpen (.chan c))
              else t).finishEvent)
      ∧ (r.driven = true → 8000 < current →
          exec (.shortTrip c current) s
            = .next ((s.setChan c ⟨.tripped, 0, 0, none, none, false⟩).push (.occurrence .driverShort (.chan c))).finishEvent)
      ∧ ((r.driven = false ∨ current ≤ 8000) → exec (.shortTrip c current) s = .next s)
      ∧ (r.drive = .pwm → r.period = some v → 5000 ≤ v →
          exec (.pwmPeriodStart c) s
            = .next (s.setChan c { r with
                duty := r.pending, period := some 0, armed := r.armed || timerAt r.prove 50000 }).finishEvent)
      ∧ (r.driven = true ↔ r.drive = .on
          ∨ (r.drive = .pwm ∧ ∃ p, r.period = some p ∧ (p < 5 * r.duty ∨ 1000 ≤ r.duty)))

/-! ### Faults -/

/-- An ACK marks the entry it names and removes it when it is CLEARED; ACK ALL marks every entry and removes every CLEARED one,
oldest first, before anything that follows from a removal (the model's choice, log 43): the ACTIVE ones stay, acknowledged. A
removal takes the entry out of the list, clears the full flag, and releases the FAILED lamp or the TRIPPED channel it named, and
with the full flag every one without an entry of its own. In STARTUP an ACK is REFUSED_STATE, and one that names no kind with its
subject is BAD_PARAM. -/
def Obligations.Acknowledgements : Prop :=
  (∀ (s : State) (l : Link) (tag : Byte), s.admits l cabService → s.awake = true →
    (∀ x y k subject, ackOfBytes [x, y] = some (k, subject) →
        exec (.ack l tag [x, y]) s
          = .next (((s.withFrame l).acknowledge k subject).finish.replied l 0x42 tag .accepted []))
      ∧ exec (.ackAll l tag) s
          = .next ((s.withFrame l).acknowledgeAll.finish.replied l 0x42 tag .accepted [])
      ∧ (∀ k subject, s.faults.Sound → ∀ e,
          (e ∈ (s.acknowledge k subject).faults.entries ↔
            ∃ e' ∈ s.faults.entries, ¬(e'.isFor k subject = true ∧ e'.active = false)
              ∧ e = if e'.isFor k subject then { e' with acked := true } else e')))
    ∧ (∀ (s : State) (k : FaultKind) (subject : Subject),
      let marked := s.setEntries (s.faults.entries.map fun e => if e.isFor k subject then { e with acked := true } else e)
      let cleared := ∃ e ∈ s.faults.entries, e.isFor k subject = true ∧ e.active = false
      (cleared → s.acknowledge k subject = marked.removeEntry k subject) ∧ (¬cleared → s.acknowledge k subject = marked))
    ∧ (∀ (s : State) (l : Link) (tag : Byte) (ps : List Byte), s.admits l cabService →
      let refuses := fun (c : Instr) (r : Result) => exec c s = .next ((s.withFrame l).replied l 0x42 tag r [])
      (s.awake = false → refuses (.ack l tag ps) .refusedState ∧ refuses (.ackAll l tag) .refusedState)
        ∧ (s.awake = true → (∀ x y, ps = [x, y] → ackOfBytes [x, y] = none) → refuses (.ack l tag ps) .badParam))
    ∧ (∀ s : State,
      s.acknowledgeAll = (s.faults.entries.filter fun e => !e.active).foldl (fun t e => t.removeEntry e.kind e.subject)
          (s.setEntries (s.faults.entries.map fun e => { e with acked := true }))
        ∧ (s.faults.Sound → s.acknowledgeAll.faults.entries
          = (s.faults.entries.filter fun e => e.active).map fun e => { e with acked := true }))
    ∧ ∀ (s : State) (k : FaultKind) (subject : Subject),
      let t := s.removeEntry k subject
      let bare := fun (k' : FaultKind) (x : Subject) => (k = k' ∧ subject = x)
        ∨ (s.faults.full = true ∧ ∀ e ∈ s.faults.entries, e.isFor k' x = false)
      t.faults = ⟨s.faults.entries.filter fun e => !e.isFor k subject, false⟩
        ∧ (∀ n, (s.lamp n).proven = .failed → bare .lampOpen (.lamp n) →
            t.lamp n = { s.lamp n with proven := .unknown })
        ∧ (∀ n, ((s.lamp n).proven ≠ .failed ∨ ¬bare .lampOpen (.lamp n)) → t.lamp n = s.lamp n)
        ∧ (∀ c, (s.chan c).drive = .tripped → bare .driverShort (.chan c) →
            t.chan c = ⟨.off, 0, 0, none, none, false⟩)
        ∧ (∀ c, ((s.chan c).drive ≠ .tripped ∨ ¬bare .driverShort (.chan c)) → t.chan c = s.chan c)
        ∧ t = { s with faults := t.faults, lamps := t.lamps, bank := t.bank }

/-- The end of a condition: an ACTIVE entry becomes CLEARED and stays when it is not acknowledged, and is removed when it is;
at a CLEARED or absent entry nothing happens. -/
def Obligations.ConditionsEnd : Prop :=
  ∀ (s : State) (k : FaultKind) (subject : Subject), s.faults.Sound →
    let t := s.takeConditionEnd k subject
    (∀ e ∈ s.faults.entries, e.isFor k subject = true → e.active = true → e.acked = false →
        t = s.setEntries (s.faults.entries.map fun x => if x.isFor k subject then { x with active := false } else x))
      ∧ (∀ e ∈ s.faults.entries, e.isFor k subject = true → e.active = true → e.acked = true →
          t = s.removeEntry k subject
            ∧ t.faults.entries = s.faults.entries.filter fun x => !x.isFor k subject)
      ∧ (∀ e ∈ s.faults.entries, e.isFor k subject = true → e.active = false → t = s)
      ∧ ((∀ e ∈ s.faults.entries, e.isFor k subject = false) → t = s)

/-- An occurrence: a present entry counts up to 255, loses its acknowledgement and, for a condition kind, becomes ACTIVE, in
its place; an absent one is appended while there is room. A full table gives up its oldest CLEARED entry that covers no stroke,
otherwise its oldest ACTIVE one that covers none; where every entry covers a stroke the occurrence is dropped and the full flag
set. Which entries cover a stroke while two map entries name one function is the model's choice (log 39); so is that the lamps
and channels which the eviction releases are released before the new entry is appended (log 44). -/
def Obligations.OccurrencesAreRecorded : Prop :=
  ∀ (s : State) (k : FaultKind) (subject : Subject),
    let fresh : FaultEntry := ⟨k, subject, k.isCondition, false, 1⟩
    let blocks := fun e : FaultEntry => ∃ a k, s.tables.Covered e a k
    let oldest := fun (p : FaultEntry → Prop) (e : FaultEntry) =>
      ∃ before rest, s.faults.entries = before ++ e :: rest ∧ p e ∧ ∀ x ∈ before, ¬p x
    let spent := fun e : FaultEntry => e.active = false ∧ ¬blocks e
    let standing := fun e : FaultEntry => e.active = true ∧ ¬blocks e
    (s.hasEntry k subject = true ↔ ∃ e ∈ s.faults.entries, e.kind = k ∧ e.subject = subject)
      ∧ (k.isCondition = true ↔
          k ∈ [FaultKind.estop, .sensorRange, .sensorLost, .hatchSwitch, .pumpStuck, .lowSupply])
      ∧ (s.hasEntry k subject = true →
          s.takeOccurrence k subject = s.setEntries (s.faults.entries.map fun e =>
            if e.isFor k subject then
              { e with count := min 255 (e.count + 1), acked := false, active := e.active || k.isCondition }
            else e))
      ∧ (s.hasEntry k subject = false → s.faults.entries.length < 16 →
          s.takeOccurrence k subject = s.setEntries (s.faults.entries ++ [fresh]))
      ∧ (s.hasEntry k subject = false → s.faults.entries.length = 16 →
          (∀ e, oldest spent e ∨ ((∀ x ∈ s.faults.entries, ¬spent x) ∧ oldest standing e) →
              let u := s.removeEntry e.kind e.subject
              s.takeOccurrence k subject = u.setEntries (u.faults.entries ++ [fresh])
                ∧ u.faults = ⟨s.faults.entries.filter fun x => !x.isFor e.kind e.subject, false⟩)
            ∧ ((∀ e ∈ s.faults.entries, blocks e) →
              s.takeOccurrence k subject = { s with faults := { s.faults with full := true } }))

/-! ### Configuration -/

/-- CONFIG_ENTER takes an UNCONFIGURED part, or a READY one at rest, into CONFIG with the sender as owner; a commit that finds
nothing wrong makes it READY, or STOPPED with ESTOP asserted; one that does names the first failure of the five checks: the
output map, the profile, the scaling, the references of steps and entries, RUN in the modes of every step's stroke. Outside
their states both are REFUSED_STATE, a commit from another link than the owner is NOT_OWNER, and with parameters they are
BAD_PARAM, in that order (the model's choice, log 15). -/
def Obligations.ConfigEntersAndCommits : Prop :=
  (∀ (s : State) (l : Link) (tag : Byte), s.admits l cabService →
    let u := s.withFrame l
    let dropped := fun r : LampRec => { r with motion := .absent, trailTimer := none, manual := none, bursts := 0 }
    ((s.device.state = .unconfigured ∨ (s.device.state = .ready ∧ s.slotsIdle = true ∧ s.contextsIdle = true)) →
        exec (.configEnter l tag []) s
          = .next (({ u with
              device := { u.device with state := .config, configured := false, owner := some l, ownerIdle := some 0 }
              lamps := s.lamps.map dropped }).finish.replied l 0x50 tag
            .accepted []))
      ∧ (s.device.state = .ready → (s.slotsIdle = false ∨ s.contextsIdle = false) →
          exec (.configEnter l tag []) s = .next (u.replied l 0x50 tag .busy []))
      ∧ (s.device.state = .config → s.device.owner = some l → s.tables.commitFailure = none →
          exec (.configCommit l tag []) s
            = .next (({ u with device := { u.device with
                state := if s.asserted .estop then .stopped else .ready, configured := true, owner := none
                ownerIdle := none } }).finish.replied l 0x53 tag .accepted []))
      ∧ (s.device.state = .config → s.device.owner = some l → ∀ t i, s.tables.commitFailure = some (t, i) →
          exec (.configCommit l tag []) s = .next (u.replied l 0x53 tag .configInvalid [t, i]))
      ∧ ∀ ps,
        let enters := s.device.state = .unconfigured ∨ s.device.state = .ready
        (¬enters → exec (.configEnter l tag ps) s = .next (u.replied l 0x50 tag .refusedState []))
          ∧ (enters → ps ≠ [] → exec (.configEnter l tag ps) s = .next (u.replied l 0x50 tag .badParam []))
          ∧ (s.device.state ≠ .config → exec (.configCommit l tag ps) s = .next (u.replied l 0x53 tag .refusedState []))
          ∧ (s.device.state = .config → s.device.owner ≠ some l →
            exec (.configCommit l tag ps) s = .next (u.replied l 0x53 tag .notOwner []))
          ∧ (s.device.state = .config → s.device.owner = some l → ps ≠ [] →
            exec (.configCommit l tag ps) s = .next (u.replied l 0x53 tag .badParam [])))
    ∧ ∀ t : Tables,
      let offends := fun c : Chan => ∃ f, t.outputMap.get c = some f
        ∧ ((∃ d, d < c ∧ t.outputMap.get d = some f) ∨ (f = .lower ∧ 3 < c.val))
      let names := fun i j : Fin 32 =>
        (∃ m, t.steps.get i = .motion m ∧ (m.next = some j ∨ m.onFail = some j))
          ∨ ∃ w, t.steps.get i = .wait w ∧ (w.next = some j ∨ w.onFail = some j)
      let dangles := fun i : Fin 32 => ∃ j, names i j ∧ t.steps.get j = .empty
      let lost := fun i : Fin 8 => ∃ j, (t.entries.get i).first = some j ∧ t.steps.get j = .empty
      let heldOnly := fun i : Fin 32 => ∃ m, t.steps.get i = .motion m
        ∧ (t.policy.get (strokeIx m.actuator m.stroke)).run = false
      let mapRight := ∀ c, ¬offends c
      let profileRight := t.profile.umin < t.profile.umax
      let scalingRight := t.scaling.hbed ≤ t.scaling.hmax ∧ t.scaling.tclose ≤ t.scaling.tspan
      let stepsRight := ∀ i, ¬dangles i
      let entriesRight := ∀ i, ¬lost i
      (∀ c, FirstAt offends c → t.commitFailure = some (0x01, byte c.val))
        ∧ (mapRight → ¬profileRight → t.commitFailure = some (0x05, 0))
        ∧ (mapRight → profileRight → ¬scalingRight → t.commitFailure = some (0x04, 0))
        ∧ (mapRight → profileRight → scalingRight → ∀ i, FirstAt dangles i → t.commitFailure = some (0x07, byte i.val))
        ∧ (mapRight → profileRight → scalingRight → stepsRight → ∀ i, FirstAt lost i →
            t.commitFailure = some (0x08, byte i.val))
        ∧ (mapRight → profileRight → scalingRight → stepsRight → entriesRight → ∀ i, FirstAt heldOnly i →
            t.commitFailure = some (0x07, byte i.val))
        ∧ (mapRight → profileRight → scalingRight → stepsRight → entriesRight → (∀ i, ¬heldOnly i) →
            t.commitFailure = none)

/-- A CONFIG_WRITE from the owner stores the record with each field brought to its range, answers with what it stored, CLAMPED
when that differs, and reaches the blocks: a span empties its channel's window, a lamp's record restarts its pattern, an
input's setup moves its level, its timer and, by its polarity, its readers. The ranges of each table's records. Outside CONFIG it
is REFUSED_STATE, from another link than the owner NOT_OWNER, and with parameters that give no record BAD_PARAM. -/
def Obligations.ConfigWrites : Prop :=
  (∀ (s : State) (l : Link) (tag table index : Byte) (bs : List Byte) (r : Record), s.admits l cabService →
    s.device.state = .config → s.device.owner = some l → Record.ofBytes table index bs = some r →
    exec (.configWrite l tag (table :: index :: bs)) s
        = .next (((s.withFrame l).writeRecord r.clamp).finish.replied l 0x51 tag
            (if r.clamp = r then .accepted else .clamped) r.clamp.bytes)
      ∧ (s.writeRecord r.clamp).tables = s.tables.store r.clamp
      ∧ (s.tables.store r.clamp).record table index = some r.clamp)
    ∧ (∀ (s : State) (l : Link) (tag : Byte) (ps : List Byte), s.admits l cabService →
      let refuses := fun r : Result => exec (.configWrite l tag ps) s = .next ((s.withFrame l).replied l 0x51 tag r [])
      (s.device.state ≠ .config → refuses .refusedState)
        ∧ (s.device.state = .config → s.device.owner ≠ some l → refuses .notOwner)
        ∧ (s.device.state = .config → s.device.owner = some l →
          (∀ table index bs, ps = table :: index :: bs → Record.ofBytes table index bs = none) → refuses .badParam))
    ∧ (let range := fun low high n : Nat => if n < low then low else if high < n then high else n
      let pattern := fun p : Pattern => { p with on := if 1 ≤ p.on ∧ p.on ≤ 5 then 6 else p.on }
      (∀ i f, (Record.outputMap i f).clamp = .outputMap i f) ∧ (∀ i r, (Record.inputSetup i r).clamp = .inputSetup i r)
        ∧ (∀ i r, (Record.entry i r).clamp = .entry i r)
        ∧ (∀ i r, (Record.policy i r).clamp
            = .policy i { r with priority := range 0 7 r.priority, runLimit := range 1 120 r.runLimit })
        ∧ (∀ r, (Record.scaling r).clamp = .scaling ⟨range 300 2500 r.hmax, range 100 2500 r.hbed, range 300 1800 r.tspan,
            range 100 1800 r.tclose, range 2 30 r.sbH, range 2 50 r.sbT⟩)
        ∧ (∀ r, (Record.profile r).clamp = .profile ⟨range 100 600 r.umin, range 150 1000 r.umax, range 20 400 r.zone,
            range 0 40 r.load, range 5 200 r.rup, range 5 200 r.rdown, range 50 350 r.pover⟩)
        ∧ (∀ n r, (Record.lamp n r).clamp = .lamp n { r with
            motion := pattern r.motion, fault := pattern r.fault, manual := pattern r.manual
            trail := range 0 10000 r.trail })
        ∧ (∀ i, (Record.step i .empty).clamp = .step i .empty)
        ∧ (∀ i m, m.actuator = .lift → (Record.step i (.motion m)).clamp
            = .step i (.motion { m with target := m.target.map (range 0 2500), limit := range 1 600 m.limit }))
        ∧ (∀ i m, m.actuator = .tilt → (Record.step i (.motion m)).clamp
            = .step i (.motion { m with target := m.target.map (range 0 1800), limit := range 1 600 m.limit }))
        ∧ (∀ i m, m.actuator.hatch? ≠ none → m.target = none → (Record.step i (.motion m)).clamp
            = .step i (.motion { m with limit := range 1 600 m.limit }))
        ∧ (∀ i w, (Record.step i (.wait w)).clamp = .step i (.wait { w with limit := range 1 600 w.limit }))
        ∧ (∀ r, (Record.timing r).clamp = .timing ⟨range 10 50 r.refresh, range 0 2000 r.lead, range 0 10000 r.trailBase,
            range 200 2000 r.primeLimit, range 1 60 r.dormancy⟩))
    ∧ ∀ s : State,
      let stored := fun r : Record => { s with tables := s.tables.store r }
      (∀ r, (∃ i f, r = .outputMap i f) ∨ (∃ i p, r = .policy i p) ∨ (∃ p, r = .profile p) ∨ (∃ i p, r = .step i p)
          ∨ (∃ i p, r = .entry i p) ∨ (∃ p, r = .timing p) → s.writeRecord r = stored r)
        ∧ (∀ r : Scaling,
          let emptied := fun (q : Capture) (span : Nat) =>
            { q with window := [], bad := 0, reported := min q.reported span, valid := false }
          s.writeRecord (.scaling r) = ((stored (.scaling r)).setCapture .height
            (emptied (s.capture .height) r.hmax)).setCapture .tilt (emptied (s.capture .tilt) r.tspan))
        ∧ (∀ (n : Lamp) (r : LampCfg),
          let was := s.lamp n
          ((s.lamp n).cls = .none → s.writeRecord (.lamp n r) = stored (.lamp n r))
            ∧ ((s.lamp n).cls ≠ .none → ∃ q : LampRec,
              s.writeRecord (.lamp n r) = (stored (.lamp n r)).setLamp n q
                ∧ (was.cls = .fault → q.Begins r.fault true) ∧ (was.cls = .motion → q.Begins r.motion true)
                ∧ (∀ m, was.cls = .manual → was.manual = some m → q.Begins m.pattern true)
                ∧ q = { was with phaseOn := q.phaseOn, phaseTimer := q.phaseTimer, prove := q.prove }
                ∧ q.prove = if q.phaseOn = false then none else if was.phaseOn = true then was.prove else some 0))
        ∧ ∀ (i : Input) (r : InputSetup),
          let was := s.input i
          let level :=
            if r.bias = (s.setup i).bias then was.level
            else match was.drive, r.bias with
              | .high, _ => true
              | .low, _ => false
              | .undriven, .up => true
              | .undriven, .down => false
              | .undriven, .none => Config.floatingLevel s.draws
          let sensed := fun (p : Polarity) (v : Bool) => if i = .speed ∧ p = .activeLow then !v else v
          let now := sensed r.polarity level
          let timer :=
            if now = sensed (s.setup i).polarity was.level then was.timer
            else if s.device.state = .dormant ∨ was.debounced = some now then none
            else some 0
          let u := ({ stored (.inputSetup i.ix r) with draws := s.draws + 1 }).setInput i
            { was with level := level, timer := timer }
          s.writeRecord (.inputSetup i.ix r)
            = if r.polarity ≠ (s.setup i).polarity ∧ was.debounced ≠ none then u.inputChanged i else u

/-- The tables change by a CONFIG_WRITE in CONFIG from its owner and by a reset, which brings the defaults, and by nothing
else: after any other command that changes them the part stands reset, in STARTUP with its counter at 0 and one reset kind among
every link's causes. -/
def Obligations.TablesStand : Prop :=
  ∀ (s t : State) (c : Instr), exec c s = .next t → t.tables ≠ s.tables →
    (∃ l tag ps, c = .configWrite l tag ps ∧ s.device.state = .config ∧ s.device.owner = some l)
      ∨ (t.tables = defaultTables ∧ t.device.state = .startup ∧ t.counter = 0
        ∧ ∃ k : ResetKind, ∀ l, (t.link l).causes.get k.ix = true)

/-! ### Invariants of every step -/

/-- Every step keeps the agreement of slots, grants, pump and call list, the soundness of every slot, and rest outside
READY. -/
def Obligations.StepKeepsTheSupply : Prop :=
  ∀ s t : State, s.SupplyAgrees → s.SlotsSound → s.RestsUnlessReady → step s = .next t →
    t.SupplyAgrees ∧ t.SlotsSound ∧ t.RestsUnlessReady

/-- Every step keeps the fault table and the capture channels sound. -/
def Obligations.StepKeepsTheRecords : Prop :=
  ∀ s t : State, step s = .next t → (s.faults.Sound → t.faults.Sound) ∧ (s.CapturesSound → t.CapturesSound)

/-- Every step keeps power functions undriven while the power cutoff is in force, and no step leaves a READY part with the
emergency stop asserted. -/
def Obligations.StepKeepsTheStop : Prop :=
  ∀ s t : State, step s = .next t → (s.PowerSafe → t.PowerSafe) ∧ (s.StopsOnEstop → t.StopsOnEstop)

/-- The part right after reset meets every invariant. -/
def Obligations.ResetMeetsTheInvariants : Prop :=
  State.reset.SupplyAgrees ∧ State.reset.SlotsSound ∧ State.reset.RestsUnlessReady ∧ State.reset.faults.Sound
    ∧ State.reset.CapturesSound ∧ State.reset.PowerSafe ∧ State.reset.StopsOnEstop ∧ State.reset.Settled

end
end

