-- ==== Sys2Proof/Laws/Table.lean ====
section
/-! SUPPORT. Reading a table after a write, and the numbers of names. -/

namespace Sys2Proof.Machine

theorem Table.ext_get {α : Type} {n : Nat} {t u : Table α n} (h : ∀ i, t.get i = u.get i) : t = u := by
  cases t with
  | mk c hc =>
    cases u with
    | mk d hd =>
      simp only [Table.mk.injEq]
      apply List.ext_getElem (by omega)
      intro i h1 h2
      have := h ⟨i, by omega⟩
      simpa [Table.get] using this

@[simp] theorem Table.get_set_self {α : Type} {n : Nat} (t : Table α n) (i : Fin n) (a : α) : (t.set i a).get i = a :=
  List.getElem_set_self _

theorem Table.get_set_ne {α : Type} {n : Nat} (t : Table α n) {i j : Fin n} (a : α) (h : i ≠ j) :
    (t.set i a).get j = t.get j := by
  have : i.val ≠ j.val := fun e => h (Fin.ext e)
  exact List.getElem_set_ne this _

theorem Table.get_set {α : Type} {n : Nat} (t : Table α n) (i j : Fin n) (a : α) :
    (t.set i a).get j = if i = j then a else t.get j := by
  split
  · next h => subst h; simp
  · next h => exact Table.get_set_ne t a h

@[simp] theorem Table.get_ofFn {α : Type} {n : Nat} (f : Fin n → α) (i : Fin n) : (Table.ofFn f).get i = f i :=
  List.getElem_ofFn _

@[simp] theorem Table.get_fill {α : Type} {n : Nat} (a : α) (i : Fin n) : (Table.fill n a).get i = a := by
  simp [Table.get, Table.fill]

@[simp] theorem Table.get_map {α β : Type} {n : Nat} (f : α → β) (t : Table α n) (i : Fin n) :
    (t.map f).get i = f (t.get i) :=
  List.getElem_map _

@[simp] theorem Table.set_get_self {α : Type} {n : Nat} (t : Table α n) (i : Fin n) : t.set i (t.get i) = t := by
  apply Table.ext_get
  intro j
  rw [Table.get_set]
  split
  · next h => rw [h]
  · rfl

/-- A property of every cell is a property of every index. -/
theorem Table.all_iff {α : Type} {n : Nat} (t : Table α n) (p : α → Bool) :
    t.cells.all p = true ↔ ∀ i, p (t.get i) = true := by
  rw [List.all_eq_true]
  constructor
  · intro h i
    exact h _ (List.get_mem _ _)
  · intro h a ha
    obtain ⟨i, hi, rfl⟩ := List.getElem_of_mem ha
    have := h ⟨i, by have := t.size; omega⟩
    simpa [Table.get] using this

@[simp] theorem ix_inj (a b : Actuator) : a.ix = b.ix ↔ a = b := by
  cases a <;> cases b <;> decide

@[simp] theorem circuit_ix_inj (a b : Circuit) : a.ix = b.ix ↔ a = b := by
  cases a <;> cases b <;> decide

@[simp] theorem sensor_ix_inj (a b : Sensor) : a.ix = b.ix ↔ a = b := by
  cases a <;> cases b <;> decide

@[simp] theorem input_ix_inj (a b : Input) : a.ix = b.ix ↔ a = b := by
  cases a <;> cases b <;> decide

@[simp] theorem func_ix_inj (a b : Func) : a.ix = b.ix ↔ a = b := by
  cases a <;> cases b <;> decide

@[simp] theorem cond_ix_inj (a b : Cond) : a.ix = b.ix ↔ a = b := by
  cases a <;> cases b <;> decide

@[simp] theorem mem_actuators (a : Actuator) : a ∈ Actuator.all := by
  cases a <;> decide

@[simp] theorem mem_conds (c : Cond) : c ∈ Cond.all := by
  cases c <;> decide

@[simp] theorem condOfIx (c : Cond) : Cond.ofIx c.ix = c := by
  cases c <;> rfl

@[simp] theorem inputOfIx (i : Input) : Input.ofIx i.ix = i := by
  cases i <;> rfl

@[simp] theorem funcOfIx (f : Func) : Func.ofIx f.ix = f := by
  cases f <;> rfl

@[simp] theorem condSet_has_of (f : Cond → Bool) (c : Cond) : (CondSet.of f).has c = f c := by
  simp [CondSet.has, CondSet.of]

/-- No link has a timer in the empty set. -/
theorem LinkTimers.isEmpty_iff (t : LinkTimers) : t.isEmpty = true ↔ ∀ l, t.get l = Option.none := by
  unfold LinkTimers.isEmpty
  rw [Table.all_iff]
  simp

end Sys2Proof.Machine
end

