-- ==== Sys2Proof/Laws/State.lean ====
section
/-! SUPPORT. What each named update of State leaves as it was, field by field, and what it writes. -/

namespace Sys2Proof.Machine

variable (s : State)

/-! ### setSlot -/

@[simp] theorem State.setSlot_pins (a : Actuator) (r : Slot) : (s.setSlot a r).pins = s.pins := rfl
@[simp] theorem State.setSlot_links (a : Actuator) (r : Slot) : (s.setSlot a r).links = s.links := rfl
@[simp] theorem State.setSlot_arbiter (a : Actuator) (r : Slot) : (s.setSlot a r).arbiter = s.arbiter := rfl
@[simp] theorem State.setSlot_stuck (a : Actuator) (r : Slot) : (s.setSlot a r).stuck = s.stuck := rfl
@[simp] theorem State.setSlot_profile (a : Actuator) (r : Slot) : (s.setSlot a r).profile = s.profile := rfl
@[simp] theorem State.setSlot_inputs (a : Actuator) (r : Slot) : (s.setSlot a r).inputs = s.inputs := rfl
@[simp] theorem State.setSlot_permit (a : Actuator) (r : Slot) : (s.setSlot a r).permit = s.permit := rfl
@[simp] theorem State.setSlot_counter (a : Actuator) (r : Slot) : (s.setSlot a r).counter = s.counter := rfl
@[simp] theorem State.setSlot_captures (a : Actuator) (r : Slot) : (s.setSlot a r).captures = s.captures := rfl
@[simp] theorem State.setSlot_contexts (a : Actuator) (r : Slot) : (s.setSlot a r).contexts = s.contexts := rfl
@[simp] theorem State.setSlot_lamps (a : Actuator) (r : Slot) : (s.setSlot a r).lamps = s.lamps := rfl
@[simp] theorem State.setSlot_bank (a : Actuator) (r : Slot) : (s.setSlot a r).bank = s.bank := rfl
@[simp] theorem State.setSlot_supply (a : Actuator) (r : Slot) : (s.setSlot a r).supply = s.supply := rfl
@[simp] theorem State.setSlot_faults (a : Actuator) (r : Slot) : (s.setSlot a r).faults = s.faults := rfl
@[simp] theorem State.setSlot_device (a : Actuator) (r : Slot) : (s.setSlot a r).device = s.device := rfl
@[simp] theorem State.setSlot_tables (a : Actuator) (r : Slot) : (s.setSlot a r).tables = s.tables := rfl
@[simp] theorem State.setSlot_draws (a : Actuator) (r : Slot) : (s.setSlot a r).draws = s.draws := rfl
@[simp] theorem State.setSlot_pending (a : Actuator) (r : Slot) : (s.setSlot a r).pending = s.pending := rfl
@[simp] theorem State.setSlot_agenda (a : Actuator) (r : Slot) : (s.setSlot a r).agenda = s.agenda := rfl

/-! ### setLink -/

@[simp] theorem State.setLink_pins (l : Link) (r : LinkRec) : (s.setLink l r).pins = s.pins := rfl
@[simp] theorem State.setLink_slots (l : Link) (r : LinkRec) : (s.setLink l r).slots = s.slots := rfl
@[simp] theorem State.setLink_arbiter (l : Link) (r : LinkRec) : (s.setLink l r).arbiter = s.arbiter := rfl
@[simp] theorem State.setLink_stuck (l : Link) (r : LinkRec) : (s.setLink l r).stuck = s.stuck := rfl
@[simp] theorem State.setLink_profile (l : Link) (r : LinkRec) : (s.setLink l r).profile = s.profile := rfl
@[simp] theorem State.setLink_inputs (l : Link) (r : LinkRec) : (s.setLink l r).inputs = s.inputs := rfl
@[simp] theorem State.setLink_permit (l : Link) (r : LinkRec) : (s.setLink l r).permit = s.permit := rfl
@[simp] theorem State.setLink_counter (l : Link) (r : LinkRec) : (s.setLink l r).counter = s.counter := rfl
@[simp] theorem State.setLink_captures (l : Link) (r : LinkRec) : (s.setLink l r).captures = s.captures := rfl
@[simp] theorem State.setLink_contexts (l : Link) (r : LinkRec) : (s.setLink l r).contexts = s.contexts := rfl
@[simp] theorem State.setLink_lamps (l : Link) (r : LinkRec) : (s.setLink l r).lamps = s.lamps := rfl
@[simp] theorem State.setLink_bank (l : Link) (r : LinkRec) : (s.setLink l r).bank = s.bank := rfl
@[simp] theorem State.setLink_supply (l : Link) (r : LinkRec) : (s.setLink l r).supply = s.supply := rfl
@[simp] theorem State.setLink_faults (l : Link) (r : LinkRec) : (s.setLink l r).faults = s.faults := rfl
@[simp] theorem State.setLink_device (l : Link) (r : LinkRec) : (s.setLink l r).device = s.device := rfl
@[simp] theorem State.setLink_tables (l : Link) (r : LinkRec) : (s.setLink l r).tables = s.tables := rfl
@[simp] theorem State.setLink_draws (l : Link) (r : LinkRec) : (s.setLink l r).draws = s.draws := rfl
@[simp] theorem State.setLink_pending (l : Link) (r : LinkRec) : (s.setLink l r).pending = s.pending := rfl
@[simp] theorem State.setLink_agenda (l : Link) (r : LinkRec) : (s.setLink l r).agenda = s.agenda := rfl

/-! ### setInput -/

@[simp] theorem State.setInput_pins (i : Input) (r : InputRec) : (s.setInput i r).pins = s.pins := rfl
@[simp] theorem State.setInput_links (i : Input) (r : InputRec) : (s.setInput i r).links = s.links := rfl
@[simp] theorem State.setInput_slots (i : Input) (r : InputRec) : (s.setInput i r).slots = s.slots := rfl
@[simp] theorem State.setInput_arbiter (i : Input) (r : InputRec) : (s.setInput i r).arbiter = s.arbiter := rfl
@[simp] theorem State.setInput_stuck (i : Input) (r : InputRec) : (s.setInput i r).stuck = s.stuck := rfl
@[simp] theorem State.setInput_profile (i : Input) (r : InputRec) : (s.setInput i r).profile = s.profile := rfl
@[simp] theorem State.setInput_permit (i : Input) (r : InputRec) : (s.setInput i r).permit = s.permit := rfl
@[simp] theorem State.setInput_counter (i : Input) (r : InputRec) : (s.setInput i r).counter = s.counter := rfl
@[simp] theorem State.setInput_captures (i : Input) (r : InputRec) : (s.setInput i r).captures = s.captures := rfl
@[simp] theorem State.setInput_contexts (i : Input) (r : InputRec) : (s.setInput i r).contexts = s.contexts := rfl
@[simp] theorem State.setInput_lamps (i : Input) (r : InputRec) : (s.setInput i r).lamps = s.lamps := rfl
@[simp] theorem State.setInput_bank (i : Input) (r : InputRec) : (s.setInput i r).bank = s.bank := rfl
@[simp] theorem State.setInput_supply (i : Input) (r : InputRec) : (s.setInput i r).supply = s.supply := rfl
@[simp] theorem State.setInput_faults (i : Input) (r : InputRec) : (s.setInput i r).faults = s.faults := rfl
@[simp] theorem State.setInput_device (i : Input) (r : InputRec) : (s.setInput i r).device = s.device := rfl
@[simp] theorem State.setInput_tables (i : Input) (r : InputRec) : (s.setInput i r).tables = s.tables := rfl
@[simp] theorem State.setInput_draws (i : Input) (r : InputRec) : (s.setInput i r).draws = s.draws := rfl
@[simp] theorem State.setInput_pending (i : Input) (r : InputRec) : (s.setInput i r).pending = s.pending := rfl
@[simp] theorem State.setInput_agenda (i : Input) (r : InputRec) : (s.setInput i r).agenda = s.agenda := rfl

/-! ### setCapture -/

@[simp] theorem State.setCapture_pins (m : Sensor) (r : Capture) : (s.setCapture m r).pins = s.pins := rfl
@[simp] theorem State.setCapture_links (m : Sensor) (r : Capture) : (s.setCapture m r).links = s.links := rfl
@[simp] theorem State.setCapture_slots (m : Sensor) (r : Capture) : (s.setCapture m r).slots = s.slots := rfl
@[simp] theorem State.setCapture_arbiter (m : Sensor) (r : Capture) : (s.setCapture m r).arbiter = s.arbiter := rfl
@[simp] theorem State.setCapture_stuck (m : Sensor) (r : Capture) : (s.setCapture m r).stuck = s.stuck := rfl
@[simp] theorem State.setCapture_profile (m : Sensor) (r : Capture) : (s.setCapture m r).profile = s.profile := rfl
@[simp] theorem State.setCapture_inputs (m : Sensor) (r : Capture) : (s.setCapture m r).inputs = s.inputs := rfl
@[simp] theorem State.setCapture_permit (m : Sensor) (r : Capture) : (s.setCapture m r).permit = s.permit := rfl
@[simp] theorem State.setCapture_counter (m : Sensor) (r : Capture) : (s.setCapture m r).counter = s.counter := rfl
@[simp] theorem State.setCapture_contexts (m : Sensor) (r : Capture) : (s.setCapture m r).contexts = s.contexts := rfl
@[simp] theorem State.setCapture_lamps (m : Sensor) (r : Capture) : (s.setCapture m r).lamps = s.lamps := rfl
@[simp] theorem State.setCapture_bank (m : Sensor) (r : Capture) : (s.setCapture m r).bank = s.bank := rfl
@[simp] theorem State.setCapture_supply (m : Sensor) (r : Capture) : (s.setCapture m r).supply = s.supply := rfl
@[simp] theorem State.setCapture_faults (m : Sensor) (r : Capture) : (s.setCapture m r).faults = s.faults := rfl
@[simp] theorem State.setCapture_device (m : Sensor) (r : Capture) : (s.setCapture m r).device = s.device := rfl
@[simp] theorem State.setCapture_tables (m : Sensor) (r : Capture) : (s.setCapture m r).tables = s.tables := rfl
@[simp] theorem State.setCapture_draws (m : Sensor) (r : Capture) : (s.setCapture m r).draws = s.draws := rfl
@[simp] theorem State.setCapture_pending (m : Sensor) (r : Capture) : (s.setCapture m r).pending = s.pending := rfl
@[simp] theorem State.setCapture_agenda (m : Sensor) (r : Capture) : (s.setCapture m r).agenda = s.agenda := rfl

/-! ### setContext -/

@[simp] theorem State.setContext_pins (c : Ctx) (r : Context) : (s.setContext c r).pins = s.pins := rfl
@[simp] theorem State.setContext_links (c : Ctx) (r : Context) : (s.setContext c r).links = s.links := rfl
@[simp] theorem State.setContext_slots (c : Ctx) (r : Context) : (s.setContext c r).slots = s.slots := rfl
@[simp] theorem State.setContext_arbiter (c : Ctx) (r : Context) : (s.setContext c r).arbiter = s.arbiter := rfl
@[simp] theorem State.setContext_stuck (c : Ctx) (r : Context) : (s.setContext c r).stuck = s.stuck := rfl
@[simp] theorem State.setContext_profile (c : Ctx) (r : Context) : (s.setContext c r).profile = s.profile := rfl
@[simp] theorem State.setContext_inputs (c : Ctx) (r : Context) : (s.setContext c r).inputs = s.inputs := rfl
@[simp] theorem State.setContext_permit (c : Ctx) (r : Context) : (s.setContext c r).permit = s.permit := rfl
@[simp] theorem State.setContext_counter (c : Ctx) (r : Context) : (s.setContext c r).counter = s.counter := rfl
@[simp] theorem State.setContext_captures (c : Ctx) (r : Context) : (s.setContext c r).captures = s.captures := rfl
@[simp] theorem State.setContext_lamps (c : Ctx) (r : Context) : (s.setContext c r).lamps = s.lamps := rfl
@[simp] theorem State.setContext_bank (c : Ctx) (r : Context) : (s.setContext c r).bank = s.bank := rfl
@[simp] theorem State.setContext_supply (c : Ctx) (r : Context) : (s.setContext c r).supply = s.supply := rfl
@[simp] theorem State.setContext_faults (c : Ctx) (r : Context) : (s.setContext c r).faults = s.faults := rfl
@[simp] theorem State.setContext_device (c : Ctx) (r : Context) : (s.setContext c r).device = s.device := rfl
@[simp] theorem State.setContext_tables (c : Ctx) (r : Context) : (s.setContext c r).tables = s.tables := rfl
@[simp] theorem State.setContext_draws (c : Ctx) (r : Context) : (s.setContext c r).draws = s.draws := rfl
@[simp] theorem State.setContext_pending (c : Ctx) (r : Context) : (s.setContext c r).pending = s.pending := rfl
@[simp] theorem State.setContext_agenda (c : Ctx) (r : Context) : (s.setContext c r).agenda = s.agenda := rfl

/-! ### setLamp -/

@[simp] theorem State.setLamp_pins (n : Lamp) (r : LampRec) : (s.setLamp n r).pins = s.pins := rfl
@[simp] theorem State.setLamp_links (n : Lamp) (r : LampRec) : (s.setLamp n r).links = s.links := rfl
@[simp] theorem State.setLamp_slots (n : Lamp) (r : LampRec) : (s.setLamp n r).slots = s.slots := rfl
@[simp] theorem State.setLamp_arbiter (n : Lamp) (r : LampRec) : (s.setLamp n r).arbiter = s.arbiter := rfl
@[simp] theorem State.setLamp_stuck (n : Lamp) (r : LampRec) : (s.setLamp n r).stuck = s.stuck := rfl
@[simp] theorem State.setLamp_profile (n : Lamp) (r : LampRec) : (s.setLamp n r).profile = s.profile := rfl
@[simp] theorem State.setLamp_inputs (n : Lamp) (r : LampRec) : (s.setLamp n r).inputs = s.inputs := rfl
@[simp] theorem State.setLamp_permit (n : Lamp) (r : LampRec) : (s.setLamp n r).permit = s.permit := rfl
@[simp] theorem State.setLamp_counter (n : Lamp) (r : LampRec) : (s.setLamp n r).counter = s.counter := rfl
@[simp] theorem State.setLamp_captures (n : Lamp) (r : LampRec) : (s.setLamp n r).captures = s.captures := rfl
@[simp] theorem State.setLamp_contexts (n : Lamp) (r : LampRec) : (s.setLamp n r).contexts = s.contexts := rfl
@[simp] theorem State.setLamp_bank (n : Lamp) (r : LampRec) : (s.setLamp n r).bank = s.bank := rfl
@[simp] theorem State.setLamp_supply (n : Lamp) (r : LampRec) : (s.setLamp n r).supply = s.supply := rfl
@[simp] theorem State.setLamp_faults (n : Lamp) (r : LampRec) : (s.setLamp n r).faults = s.faults := rfl
@[simp] theorem State.setLamp_device (n : Lamp) (r : LampRec) : (s.setLamp n r).device = s.device := rfl
@[simp] theorem State.setLamp_tables (n : Lamp) (r : LampRec) : (s.setLamp n r).tables = s.tables := rfl
@[simp] theorem State.setLamp_draws (n : Lamp) (r : LampRec) : (s.setLamp n r).draws = s.draws := rfl
@[simp] theorem State.setLamp_pending (n : Lamp) (r : LampRec) : (s.setLamp n r).pending = s.pending := rfl
@[simp] theorem State.setLamp_agenda (n : Lamp) (r : LampRec) : (s.setLamp n r).agenda = s.agenda := rfl

/-! ### setChan -/

@[simp] theorem State.setChan_pins (c : Chan) (r : ChanRec) : (s.setChan c r).pins = s.pins := rfl
@[simp] theorem State.setChan_links (c : Chan) (r : ChanRec) : (s.setChan c r).links = s.links := rfl
@[simp] theorem State.setChan_slots (c : Chan) (r : ChanRec) : (s.setChan c r).slots = s.slots := rfl
@[simp] theorem State.setChan_arbiter (c : Chan) (r : ChanRec) : (s.setChan c r).arbiter = s.arbiter := rfl
@[simp] theorem State.setChan_stuck (c : Chan) (r : ChanRec) : (s.setChan c r).stuck = s.stuck := rfl
@[simp] theorem State.setChan_profile (c : Chan) (r : ChanRec) : (s.setChan c r).profile = s.profile := rfl
@[simp] theorem State.setChan_inputs (c : Chan) (r : ChanRec) : (s.setChan c r).inputs = s.inputs := rfl
@[simp] theorem State.setChan_permit (c : Chan) (r : ChanRec) : (s.setChan c r).permit = s.permit := rfl
@[simp] theorem State.setChan_counter (c : Chan) (r : ChanRec) : (s.setChan c r).counter = s.counter := rfl
@[simp] theorem State.setChan_captures (c : Chan) (r : ChanRec) : (s.setChan c r).captures = s.captures := rfl
@[simp] theorem State.setChan_contexts (c : Chan) (r : ChanRec) : (s.setChan c r).contexts = s.contexts := rfl
@[simp] theorem State.setChan_lamps (c : Chan) (r : ChanRec) : (s.setChan c r).lamps = s.lamps := rfl
@[simp] theorem State.setChan_supply (c : Chan) (r : ChanRec) : (s.setChan c r).supply = s.supply := rfl
@[simp] theorem State.setChan_faults (c : Chan) (r : ChanRec) : (s.setChan c r).faults = s.faults := rfl
@[simp] theorem State.setChan_device (c : Chan) (r : ChanRec) : (s.setChan c r).device = s.device := rfl
@[simp] theorem State.setChan_tables (c : Chan) (r : ChanRec) : (s.setChan c r).tables = s.tables := rfl
@[simp] theorem State.setChan_draws (c : Chan) (r : ChanRec) : (s.setChan c r).draws = s.draws := rfl
@[simp] theorem State.setChan_pending (c : Chan) (r : ChanRec) : (s.setChan c r).pending = s.pending := rfl
@[simp] theorem State.setChan_agenda (c : Chan) (r : ChanRec) : (s.setChan c r).agenda = s.agenda := rfl

/-! ### setRequest -/

@[simp] theorem State.setRequest_pins (f : Func) (r : Request) : (s.setRequest f r).pins = s.pins := rfl
@[simp] theorem State.setRequest_links (f : Func) (r : Request) : (s.setRequest f r).links = s.links := rfl
@[simp] theorem State.setRequest_slots (f : Func) (r : Request) : (s.setRequest f r).slots = s.slots := rfl
@[simp] theorem State.setRequest_arbiter (f : Func) (r : Request) : (s.setRequest f r).arbiter = s.arbiter := rfl
@[simp] theorem State.setRequest_stuck (f : Func) (r : Request) : (s.setRequest f r).stuck = s.stuck := rfl
@[simp] theorem State.setRequest_profile (f : Func) (r : Request) : (s.setRequest f r).profile = s.profile := rfl
@[simp] theorem State.setRequest_inputs (f : Func) (r : Request) : (s.setRequest f r).inputs = s.inputs := rfl
@[simp] theorem State.setRequest_permit (f : Func) (r : Request) : (s.setRequest f r).permit = s.permit := rfl
@[simp] theorem State.setRequest_counter (f : Func) (r : Request) : (s.setRequest f r).counter = s.counter := rfl
@[simp] theorem State.setRequest_captures (f : Func) (r : Request) : (s.setRequest f r).captures = s.captures := rfl
@[simp] theorem State.setRequest_contexts (f : Func) (r : Request) : (s.setRequest f r).contexts = s.contexts := rfl
@[simp] theorem State.setRequest_lamps (f : Func) (r : Request) : (s.setRequest f r).lamps = s.lamps := rfl
@[simp] theorem State.setRequest_supply (f : Func) (r : Request) : (s.setRequest f r).supply = s.supply := rfl
@[simp] theorem State.setRequest_faults (f : Func) (r : Request) : (s.setRequest f r).faults = s.faults := rfl
@[simp] theorem State.setRequest_device (f : Func) (r : Request) : (s.setRequest f r).device = s.device := rfl
@[simp] theorem State.setRequest_tables (f : Func) (r : Request) : (s.setRequest f r).tables = s.tables := rfl
@[simp] theorem State.setRequest_draws (f : Func) (r : Request) : (s.setRequest f r).draws = s.draws := rfl
@[simp] theorem State.setRequest_pending (f : Func) (r : Request) : (s.setRequest f r).pending = s.pending := rfl
@[simp] theorem State.setRequest_agenda (f : Func) (r : Request) : (s.setRequest f r).agenda = s.agenda := rfl

/-! ### setGrant -/

@[simp] theorem State.setGrant_pins (c : Circuit) (g : Option Actuator) : (s.setGrant c g).pins = s.pins := rfl
@[simp] theorem State.setGrant_links (c : Circuit) (g : Option Actuator) : (s.setGrant c g).links = s.links := rfl
@[simp] theorem State.setGrant_slots (c : Circuit) (g : Option Actuator) : (s.setGrant c g).slots = s.slots := rfl
@[simp] theorem State.setGrant_stuck (c : Circuit) (g : Option Actuator) : (s.setGrant c g).stuck = s.stuck := rfl
@[simp] theorem State.setGrant_profile (c : Circuit) (g : Option Actuator) : (s.setGrant c g).profile = s.profile := rfl
@[simp] theorem State.setGrant_inputs (c : Circuit) (g : Option Actuator) : (s.setGrant c g).inputs = s.inputs := rfl
@[simp] theorem State.setGrant_permit (c : Circuit) (g : Option Actuator) : (s.setGrant c g).permit = s.permit := rfl
@[simp] theorem State.setGrant_counter (c : Circuit) (g : Option Actuator) : (s.setGrant c g).counter = s.counter := rfl
@[simp] theorem State.setGrant_captures (c : Circuit) (g : Option Actuator) : (s.setGrant c g).captures = s.captures := rfl
@[simp] theorem State.setGrant_contexts (c : Circuit) (g : Option Actuator) : (s.setGrant c g).contexts = s.contexts := rfl
@[simp] theorem State.setGrant_lamps (c : Circuit) (g : Option Actuator) : (s.setGrant c g).lamps = s.lamps := rfl
@[simp] theorem State.setGrant_bank (c : Circuit) (g : Option Actuator) : (s.setGrant c g).bank = s.bank := rfl
@[simp] theorem State.setGrant_supply (c : Circuit) (g : Option Actuator) : (s.setGrant c g).supply = s.supply := rfl
@[simp] theorem State.setGrant_faults (c : Circuit) (g : Option Actuator) : (s.setGrant c g).faults = s.faults := rfl
@[simp] theorem State.setGrant_device (c : Circuit) (g : Option Actuator) : (s.setGrant c g).device = s.device := rfl
@[simp] theorem State.setGrant_tables (c : Circuit) (g : Option Actuator) : (s.setGrant c g).tables = s.tables := rfl
@[simp] theorem State.setGrant_draws (c : Circuit) (g : Option Actuator) : (s.setGrant c g).draws = s.draws := rfl
@[simp] theorem State.setGrant_pending (c : Circuit) (g : Option Actuator) : (s.setGrant c g).pending = s.pending := rfl
@[simp] theorem State.setGrant_agenda (c : Circuit) (g : Option Actuator) : (s.setGrant c g).agenda = s.agenda := rfl

/-! ### setPrime -/

@[simp] theorem State.setPrime_pins (a : Actuator) (t : PrimeTimer) : (s.setPrime a t).pins = s.pins := rfl
@[simp] theorem State.setPrime_links (a : Actuator) (t : PrimeTimer) : (s.setPrime a t).links = s.links := rfl
@[simp] theorem State.setPrime_slots (a : Actuator) (t : PrimeTimer) : (s.setPrime a t).slots = s.slots := rfl
@[simp] theorem State.setPrime_stuck (a : Actuator) (t : PrimeTimer) : (s.setPrime a t).stuck = s.stuck := rfl
@[simp] theorem State.setPrime_profile (a : Actuator) (t : PrimeTimer) : (s.setPrime a t).profile = s.profile := rfl
@[simp] theorem State.setPrime_inputs (a : Actuator) (t : PrimeTimer) : (s.setPrime a t).inputs = s.inputs := rfl
@[simp] theorem State.setPrime_permit (a : Actuator) (t : PrimeTimer) : (s.setPrime a t).permit = s.permit := rfl
@[simp] theorem State.setPrime_counter (a : Actuator) (t : PrimeTimer) : (s.setPrime a t).counter = s.counter := rfl
@[simp] theorem State.setPrime_captures (a : Actuator) (t : PrimeTimer) : (s.setPrime a t).captures = s.captures := rfl
@[simp] theorem State.setPrime_contexts (a : Actuator) (t : PrimeTimer) : (s.setPrime a t).contexts = s.contexts := rfl
@[simp] theorem State.setPrime_lamps (a : Actuator) (t : PrimeTimer) : (s.setPrime a t).lamps = s.lamps := rfl
@[simp] theorem State.setPrime_bank (a : Actuator) (t : PrimeTimer) : (s.setPrime a t).bank = s.bank := rfl
@[simp] theorem State.setPrime_supply (a : Actuator) (t : PrimeTimer) : (s.setPrime a t).supply = s.supply := rfl
@[simp] theorem State.setPrime_faults (a : Actuator) (t : PrimeTimer) : (s.setPrime a t).faults = s.faults := rfl
@[simp] theorem State.setPrime_device (a : Actuator) (t : PrimeTimer) : (s.setPrime a t).device = s.device := rfl
@[simp] theorem State.setPrime_tables (a : Actuator) (t : PrimeTimer) : (s.setPrime a t).tables = s.tables := rfl
@[simp] theorem State.setPrime_draws (a : Actuator) (t : PrimeTimer) : (s.setPrime a t).draws = s.draws := rfl
@[simp] theorem State.setPrime_pending (a : Actuator) (t : PrimeTimer) : (s.setPrime a t).pending = s.pending := rfl
@[simp] theorem State.setPrime_agenda (a : Actuator) (t : PrimeTimer) : (s.setPrime a t).agenda = s.agenda := rfl

/-! ### setDeviceState -/

@[simp] theorem State.setDeviceState_pins (d : DeviceState) : (s.setDeviceState d).pins = s.pins := rfl
@[simp] theorem State.setDeviceState_links (d : DeviceState) : (s.setDeviceState d).links = s.links := rfl
@[simp] theorem State.setDeviceState_slots (d : DeviceState) : (s.setDeviceState d).slots = s.slots := rfl
@[simp] theorem State.setDeviceState_arbiter (d : DeviceState) : (s.setDeviceState d).arbiter = s.arbiter := rfl
@[simp] theorem State.setDeviceState_stuck (d : DeviceState) : (s.setDeviceState d).stuck = s.stuck := rfl
@[simp] theorem State.setDeviceState_profile (d : DeviceState) : (s.setDeviceState d).profile = s.profile := rfl
@[simp] theorem State.setDeviceState_inputs (d : DeviceState) : (s.setDeviceState d).inputs = s.inputs := rfl
@[simp] theorem State.setDeviceState_permit (d : DeviceState) : (s.setDeviceState d).permit = s.permit := rfl
@[simp] theorem State.setDeviceState_counter (d : DeviceState) : (s.setDeviceState d).counter = s.counter := rfl
@[simp] theorem State.setDeviceState_captures (d : DeviceState) : (s.setDeviceState d).captures = s.captures := rfl
@[simp] theorem State.setDeviceState_contexts (d : DeviceState) : (s.setDeviceState d).contexts = s.contexts := rfl
@[simp] theorem State.setDeviceState_lamps (d : DeviceState) : (s.setDeviceState d).lamps = s.lamps := rfl
@[simp] theorem State.setDeviceState_bank (d : DeviceState) : (s.setDeviceState d).bank = s.bank := rfl
@[simp] theorem State.setDeviceState_supply (d : DeviceState) : (s.setDeviceState d).supply = s.supply := rfl
@[simp] theorem State.setDeviceState_faults (d : DeviceState) : (s.setDeviceState d).faults = s.faults := rfl
@[simp] theorem State.setDeviceState_tables (d : DeviceState) : (s.setDeviceState d).tables = s.tables := rfl
@[simp] theorem State.setDeviceState_draws (d : DeviceState) : (s.setDeviceState d).draws = s.draws := rfl
@[simp] theorem State.setDeviceState_pending (d : DeviceState) : (s.setDeviceState d).pending = s.pending := rfl
@[simp] theorem State.setDeviceState_agenda (d : DeviceState) : (s.setDeviceState d).agenda = s.agenda := rfl

/-! ### push -/

@[simp] theorem State.push_pins (x : Arrival) : (s.push x).pins = s.pins := rfl
@[simp] theorem State.push_links (x : Arrival) : (s.push x).links = s.links := rfl
@[simp] theorem State.push_slots (x : Arrival) : (s.push x).slots = s.slots := rfl
@[simp] theorem State.push_arbiter (x : Arrival) : (s.push x).arbiter = s.arbiter := rfl
@[simp] theorem State.push_stuck (x : Arrival) : (s.push x).stuck = s.stuck := rfl
@[simp] theorem State.push_profile (x : Arrival) : (s.push x).profile = s.profile := rfl
@[simp] theorem State.push_inputs (x : Arrival) : (s.push x).inputs = s.inputs := rfl
@[simp] theorem State.push_permit (x : Arrival) : (s.push x).permit = s.permit := rfl
@[simp] theorem State.push_counter (x : Arrival) : (s.push x).counter = s.counter := rfl
@[simp] theorem State.push_captures (x : Arrival) : (s.push x).captures = s.captures := rfl
@[simp] theorem State.push_contexts (x : Arrival) : (s.push x).contexts = s.contexts := rfl
@[simp] theorem State.push_lamps (x : Arrival) : (s.push x).lamps = s.lamps := rfl
@[simp] theorem State.push_bank (x : Arrival) : (s.push x).bank = s.bank := rfl
@[simp] theorem State.push_supply (x : Arrival) : (s.push x).supply = s.supply := rfl
@[simp] theorem State.push_faults (x : Arrival) : (s.push x).faults = s.faults := rfl
@[simp] theorem State.push_device (x : Arrival) : (s.push x).device = s.device := rfl
@[simp] theorem State.push_tables (x : Arrival) : (s.push x).tables = s.tables := rfl
@[simp] theorem State.push_draws (x : Arrival) : (s.push x).draws = s.draws := rfl
@[simp] theorem State.push_pending (x : Arrival) : (s.push x).pending = s.pending := rfl

/-! ### pushAll -/

@[simp] theorem State.pushAll_pins (xs : List Arrival) : (s.pushAll xs).pins = s.pins := rfl
@[simp] theorem State.pushAll_links (xs : List Arrival) : (s.pushAll xs).links = s.links := rfl
@[simp] theorem State.pushAll_slots (xs : List Arrival) : (s.pushAll xs).slots = s.slots := rfl
@[simp] theorem State.pushAll_arbiter (xs : List Arrival) : (s.pushAll xs).arbiter = s.arbiter := rfl
@[simp] theorem State.pushAll_stuck (xs : List Arrival) : (s.pushAll xs).stuck = s.stuck := rfl
@[simp] theorem State.pushAll_profile (xs : List Arrival) : (s.pushAll xs).profile = s.profile := rfl
@[simp] theorem State.pushAll_inputs (xs : List Arrival) : (s.pushAll xs).inputs = s.inputs := rfl
@[simp] theorem State.pushAll_permit (xs : List Arrival) : (s.pushAll xs).permit = s.permit := rfl
@[simp] theorem State.pushAll_counter (xs : List Arrival) : (s.pushAll xs).counter = s.counter := rfl
@[simp] theorem State.pushAll_captures (xs : List Arrival) : (s.pushAll xs).captures = s.captures := rfl
@[simp] theorem State.pushAll_contexts (xs : List Arrival) : (s.pushAll xs).contexts = s.contexts := rfl
@[simp] theorem State.pushAll_lamps (xs : List Arrival) : (s.pushAll xs).lamps = s.lamps := rfl
@[simp] theorem State.pushAll_bank (xs : List Arrival) : (s.pushAll xs).bank = s.bank := rfl
@[simp] theorem State.pushAll_supply (xs : List Arrival) : (s.pushAll xs).supply = s.supply := rfl
@[simp] theorem State.pushAll_faults (xs : List Arrival) : (s.pushAll xs).faults = s.faults := rfl
@[simp] theorem State.pushAll_device (xs : List Arrival) : (s.pushAll xs).device = s.device := rfl
@[simp] theorem State.pushAll_tables (xs : List Arrival) : (s.pushAll xs).tables = s.tables := rfl
@[simp] theorem State.pushAll_draws (xs : List Arrival) : (s.pushAll xs).draws = s.draws := rfl
@[simp] theorem State.pushAll_pending (xs : List Arrival) : (s.pushAll xs).pending = s.pending := rfl

/-! ### What the updates write -/

@[simp] theorem State.push_agenda (x : Arrival) : (s.push x).agenda = s.agenda ++ [x] := rfl
@[simp] theorem State.pushAll_agenda (xs : List Arrival) : (s.pushAll xs).agenda = s.agenda ++ xs := rfl
@[simp] theorem State.setDeviceState_device (d : DeviceState) :
    (s.setDeviceState d).device = { s.device with state := d } := rfl
@[simp] theorem State.setGrant_callList (c : Circuit) (g : Option Actuator) :
    (s.setGrant c g).arbiter.callList = s.arbiter.callList := rfl
@[simp] theorem State.setGrant_pumpOwner (c : Circuit) (g : Option Actuator) :
    (s.setGrant c g).arbiter.pumpOwner = s.arbiter.pumpOwner := rfl
@[simp] theorem State.setPrime_callList (a : Actuator) (t : PrimeTimer) :
    (s.setPrime a t).arbiter.callList = s.arbiter.callList := rfl
@[simp] theorem State.setPrime_pumpOwner (a : Actuator) (t : PrimeTimer) :
    (s.setPrime a t).arbiter.pumpOwner = s.arbiter.pumpOwner := rfl
@[simp] theorem State.setPrime_grants (a : Actuator) (t : PrimeTimer) :
    (s.setPrime a t).arbiter.grants = s.arbiter.grants := rfl
@[simp] theorem State.setChan_requests (c : Chan) (r : ChanRec) : (s.setChan c r).bank.requests = s.bank.requests := rfl
@[simp] theorem State.setRequest_channels (f : Func) (r : Request) :
    (s.setRequest f r).bank.channels = s.bank.channels := rfl

theorem State.slot_setSlot (a b : Actuator) (r : Slot) : (s.setSlot a r).slot b = if a = b then r else s.slot b := by
  simp [State.slot, State.setSlot, Table.get_set]

@[simp] theorem State.slot_setSlot_self (a : Actuator) (r : Slot) : (s.setSlot a r).slot a = r := by
  simp [State.slot_setSlot]

theorem State.link_setLink (l m : Link) (r : LinkRec) : (s.setLink l r).link m = if l = m then r else s.link m := by
  simp [State.link, State.setLink, Table.get_set]

@[simp] theorem State.link_setLink_self (l : Link) (r : LinkRec) : (s.setLink l r).link l = r := by
  simp [State.link_setLink]

theorem State.input_setInput (i j : Input) (r : InputRec) :
    (s.setInput i r).input j = if i = j then r else s.input j := by
  simp [State.input, State.setInput, Table.get_set]

theorem State.capture_setCapture (m k : Sensor) (r : Capture) :
    (s.setCapture m r).capture k = if m = k then r else s.capture k := by
  simp [State.capture, State.setCapture, Table.get_set]

theorem State.context_setContext (c d : Ctx) (r : Context) :
    (s.setContext c r).context d = if c = d then r else s.context d := by
  simp [State.context, State.setContext, Table.get_set]

@[simp] theorem State.context_setContext_self (c : Ctx) (r : Context) : (s.setContext c r).context c = r := by
  simp [State.context_setContext]

theorem State.lamp_setLamp (n m : Lamp) (r : LampRec) : (s.setLamp n r).lamp m = if n = m then r else s.lamp m := by
  simp [State.lamp, State.setLamp, Table.get_set]

theorem State.chan_setChan (c d : Chan) (r : ChanRec) : (s.setChan c r).chan d = if c = d then r else s.chan d := by
  simp [State.chan, State.setChan, Table.get_set]

theorem State.grant_setGrant (c d : Circuit) (g : Option Actuator) :
    (s.setGrant c g).grant d = if c = d then g else s.grant d := by
  simp [State.grant, State.setGrant, Table.get_set]

theorem State.prime_setPrime (a b : Actuator) (t : PrimeTimer) :
    (s.setPrime a t).prime b = if a = b then t else s.prime b := by
  simp [State.prime, State.setPrime, Table.get_set]

@[simp] theorem State.setDeviceState_state (d : DeviceState) : (s.setDeviceState d).device.state = d := rfl

/-! ### Reads that an update does not touch -/

@[simp] theorem State.link_setSlot (a : Actuator) (r : Slot) (m : Link) : (s.setSlot a r).link m = s.link m := rfl
@[simp] theorem State.input_setSlot (a : Actuator) (r : Slot) (j : Input) : (s.setSlot a r).input j = s.input j := rfl
@[simp] theorem State.capture_setSlot (a : Actuator) (r : Slot) (m : Sensor) : (s.setSlot a r).capture m = s.capture m := rfl
@[simp] theorem State.context_setSlot (a : Actuator) (r : Slot) (d : Ctx) : (s.setSlot a r).context d = s.context d := rfl
@[simp] theorem State.lamp_setSlot (a : Actuator) (r : Slot) (m : Lamp) : (s.setSlot a r).lamp m = s.lamp m := rfl
@[simp] theorem State.chan_setSlot (a : Actuator) (r : Slot) (d : Chan) : (s.setSlot a r).chan d = s.chan d := rfl
@[simp] theorem State.grant_setSlot (a : Actuator) (r : Slot) (d : Circuit) : (s.setSlot a r).grant d = s.grant d := rfl
@[simp] theorem State.prime_setSlot (a : Actuator) (r : Slot) (b : Actuator) : (s.setSlot a r).prime b = s.prime b := rfl
@[simp] theorem State.cond_setSlot (a : Actuator) (r : Slot) (k : Cond) : (s.setSlot a r).cond k = s.cond k := rfl
@[simp] theorem State.ready_setSlot (a : Actuator) (r : Slot) (b : Actuator) (k : Stroke) : (s.setSlot a r).ready b k = s.ready b k := rfl
@[simp] theorem State.hatchPos_setSlot (a : Actuator) (r : Slot) (h : Hatch) : (s.setSlot a r).hatchPos h = s.hatchPos h := rfl
@[simp] theorem State.slot_setLink (l : Link) (r : LinkRec) (b : Actuator) : (s.setLink l r).slot b = s.slot b := rfl
@[simp] theorem State.input_setLink (l : Link) (r : LinkRec) (j : Input) : (s.setLink l r).input j = s.input j := rfl
@[simp] theorem State.capture_setLink (l : Link) (r : LinkRec) (m : Sensor) : (s.setLink l r).capture m = s.capture m := rfl
@[simp] theorem State.context_setLink (l : Link) (r : LinkRec) (d : Ctx) : (s.setLink l r).context d = s.context d := rfl
@[simp] theorem State.lamp_setLink (l : Link) (r : LinkRec) (m : Lamp) : (s.setLink l r).lamp m = s.lamp m := rfl
@[simp] theorem State.chan_setLink (l : Link) (r : LinkRec) (d : Chan) : (s.setLink l r).chan d = s.chan d := rfl
@[simp] theorem State.grant_setLink (l : Link) (r : LinkRec) (d : Circuit) : (s.setLink l r).grant d = s.grant d := rfl
@[simp] theorem State.prime_setLink (l : Link) (r : LinkRec) (b : Actuator) : (s.setLink l r).prime b = s.prime b := rfl
@[simp] theorem State.cond_setLink (l : Link) (r : LinkRec) (k : Cond) : (s.setLink l r).cond k = s.cond k := rfl
@[simp] theorem State.ready_setLink (l : Link) (r : LinkRec) (b : Actuator) (k : Stroke) : (s.setLink l r).ready b k = s.ready b k := rfl
@[simp] theorem State.hatchPos_setLink (l : Link) (r : LinkRec) (h : Hatch) : (s.setLink l r).hatchPos h = s.hatchPos h := rfl
@[simp] theorem State.slot_setInput (i : Input) (r : InputRec) (b : Actuator) : (s.setInput i r).slot b = s.slot b := rfl
@[simp] theorem State.link_setInput (i : Input) (r : InputRec) (m : Link) : (s.setInput i r).link m = s.link m := rfl
@[simp] theorem State.capture_setInput (i : Input) (r : InputRec) (m : Sensor) : (s.setInput i r).capture m = s.capture m := rfl
@[simp] theorem State.context_setInput (i : Input) (r : InputRec) (d : Ctx) : (s.setInput i r).context d = s.context d := rfl
@[simp] theorem State.lamp_setInput (i : Input) (r : InputRec) (m : Lamp) : (s.setInput i r).lamp m = s.lamp m := rfl
@[simp] theorem State.chan_setInput (i : Input) (r : InputRec) (d : Chan) : (s.setInput i r).chan d = s.chan d := rfl
@[simp] theorem State.grant_setInput (i : Input) (r : InputRec) (d : Circuit) : (s.setInput i r).grant d = s.grant d := rfl
@[simp] theorem State.prime_setInput (i : Input) (r : InputRec) (b : Actuator) : (s.setInput i r).prime b = s.prime b := rfl
@[simp] theorem State.cond_setInput (i : Input) (r : InputRec) (k : Cond) : (s.setInput i r).cond k = s.cond k := rfl
@[simp] theorem State.ready_setInput (i : Input) (r : InputRec) (b : Actuator) (k : Stroke) : (s.setInput i r).ready b k = s.ready b k := rfl
@[simp] theorem State.hatchPos_setInput (i : Input) (r : InputRec) (h : Hatch) : (s.setInput i r).hatchPos h = s.hatchPos h := rfl
@[simp] theorem State.slot_setCapture (m : Sensor) (r : Capture) (b : Actuator) : (s.setCapture m r).slot b = s.slot b := rfl
@[simp] theorem State.link_setCapture (m : Sensor) (r : Capture) (m' : Link) : (s.setCapture m r).link m' = s.link m' := rfl
@[simp] theorem State.input_setCapture (m : Sensor) (r : Capture) (j : Input) : (s.setCapture m r).input j = s.input j := rfl
@[simp] theorem State.context_setCapture (m : Sensor) (r : Capture) (d : Ctx) : (s.setCapture m r).context d = s.context d := rfl
@[simp] theorem State.lamp_setCapture (m : Sensor) (r : Capture) (m' : Lamp) : (s.setCapture m r).lamp m' = s.lamp m' := rfl
@[simp] theorem State.chan_setCapture (m : Sensor) (r : Capture) (d : Chan) : (s.setCapture m r).chan d = s.chan d := rfl
@[simp] theorem State.grant_setCapture (m : Sensor) (r : Capture) (d : Circuit) : (s.setCapture m r).grant d = s.grant d := rfl
@[simp] theorem State.prime_setCapture (m : Sensor) (r : Capture) (b : Actuator) : (s.setCapture m r).prime b = s.prime b := rfl
@[simp] theorem State.cond_setCapture (m : Sensor) (r : Capture) (k : Cond) : (s.setCapture m r).cond k = s.cond k := rfl
@[simp] theorem State.ready_setCapture (m : Sensor) (r : Capture) (b : Actuator) (k : Stroke) : (s.setCapture m r).ready b k = s.ready b k := rfl
@[simp] theorem State.hatchPos_setCapture (m : Sensor) (r : Capture) (h : Hatch) : (s.setCapture m r).hatchPos h = s.hatchPos h := rfl
@[simp] theorem State.slot_setContext (c : Ctx) (r : Context) (b : Actuator) : (s.setContext c r).slot b = s.slot b := rfl
@[simp] theorem State.link_setContext (c : Ctx) (r : Context) (m : Link) : (s.setContext c r).link m = s.link m := rfl
@[simp] theorem State.input_setContext (c : Ctx) (r : Context) (j : Input) : (s.setContext c r).input j = s.input j := rfl
@[simp] theorem State.capture_setContext (c : Ctx) (r : Context) (m : Sensor) : (s.setContext c r).capture m = s.capture m := rfl
@[simp] theorem State.lamp_setContext (c : Ctx) (r : Context) (m : Lamp) : (s.setContext c r).lamp m = s.lamp m := rfl
@[simp] theorem State.chan_setContext (c : Ctx) (r : Context) (d : Chan) : (s.setContext c r).chan d = s.chan d := rfl
@[simp] theorem State.grant_setContext (c : Ctx) (r : Context) (d : Circuit) : (s.setContext c r).grant d = s.grant d := rfl
@[simp] theorem State.prime_setContext (c : Ctx) (r : Context) (b : Actuator) : (s.setContext c r).prime b = s.prime b := rfl
@[simp] theorem State.cond_setContext (c : Ctx) (r : Context) (k : Cond) : (s.setContext c r).cond k = s.cond k := rfl
@[simp] theorem State.ready_setContext (c : Ctx) (r : Context) (b : Actuator) (k : Stroke) : (s.setContext c r).ready b k = s.ready b k := rfl
@[simp] theorem State.hatchPos_setContext (c : Ctx) (r : Context) (h : Hatch) : (s.setContext c r).hatchPos h = s.hatchPos h := rfl
@[simp] theorem State.slot_setLamp (n : Lamp) (r : LampRec) (b : Actuator) : (s.setLamp n r).slot b = s.slot b := rfl
@[simp] theorem State.link_setLamp (n : Lamp) (r : LampRec) (m : Link) : (s.setLamp n r).link m = s.link m := rfl
@[simp] theorem State.input_setLamp (n : Lamp) (r : LampRec) (j : Input) : (s.setLamp n r).input j = s.input j := rfl
@[simp] theorem State.capture_setLamp (n : Lamp) (r : LampRec) (m : Sensor) : (s.setLamp n r).capture m = s.capture m := rfl
@[simp] theorem State.context_setLamp (n : Lamp) (r : LampRec) (d : Ctx) : (s.setLamp n r).context d = s.context d := rfl
@[simp] theorem State.chan_setLamp (n : Lamp) (r : LampRec) (d : Chan) : (s.setLamp n r).chan d = s.chan d := rfl
@[simp] theorem State.grant_setLamp (n : Lamp) (r : LampRec) (d : Circuit) : (s.setLamp n r).grant d = s.grant d := rfl
@[simp] theorem State.prime_setLamp (n : Lamp) (r : LampRec) (b : Actuator) : (s.setLamp n r).prime b = s.prime b := rfl
@[simp] theorem State.cond_setLamp (n : Lamp) (r : LampRec) (k : Cond) : (s.setLamp n r).cond k = s.cond k := rfl
@[simp] theorem State.ready_setLamp (n : Lamp) (r : LampRec) (b : Actuator) (k : Stroke) : (s.setLamp n r).ready b k = s.ready b k := rfl
@[simp] theorem State.hatchPos_setLamp (n : Lamp) (r : LampRec) (h : Hatch) : (s.setLamp n r).hatchPos h = s.hatchPos h := rfl
@[simp] theorem State.slot_setChan (c : Chan) (r : ChanRec) (b : Actuator) : (s.setChan c r).slot b = s.slot b := rfl
@[simp] theorem State.link_setChan (c : Chan) (r : ChanRec) (m : Link) : (s.setChan c r).link m = s.link m := rfl
@[simp] theorem State.input_setChan (c : Chan) (r : ChanRec) (j : Input) : (s.setChan c r).input j = s.input j := rfl
@[simp] theorem State.capture_setChan (c : Chan) (r : ChanRec) (m : Sensor) : (s.setChan c r).capture m = s.capture m := rfl
@[simp] theorem State.context_setChan (c : Chan) (r : ChanRec) (d : Ctx) : (s.setChan c r).context d = s.context d := rfl
@[simp] theorem State.lamp_setChan (c : Chan) (r : ChanRec) (m : Lamp) : (s.setChan c r).lamp m = s.lamp m := rfl
@[simp] theorem State.grant_setChan (c : Chan) (r : ChanRec) (d : Circuit) : (s.setChan c r).grant d = s.grant d := rfl
@[simp] theorem State.prime_setChan (c : Chan) (r : ChanRec) (b : Actuator) : (s.setChan c r).prime b = s.prime b := rfl
@[simp] theorem State.cond_setChan (c : Chan) (r : ChanRec) (k : Cond) : (s.setChan c r).cond k = s.cond k := rfl
@[simp] theorem State.ready_setChan (c : Chan) (r : ChanRec) (b : Actuator) (k : Stroke) : (s.setChan c r).ready b k = s.ready b k := rfl
@[simp] theorem State.hatchPos_setChan (c : Chan) (r : ChanRec) (h : Hatch) : (s.setChan c r).hatchPos h = s.hatchPos h := rfl
@[simp] theorem State.slot_setRequest (f : Func) (r : Request) (b : Actuator) : (s.setRequest f r).slot b = s.slot b := rfl
@[simp] theorem State.link_setRequest (f : Func) (r : Request) (m : Link) : (s.setRequest f r).link m = s.link m := rfl
@[simp] theorem State.input_setRequest (f : Func) (r : Request) (j : Input) : (s.setRequest f r).input j = s.input j := rfl
@[simp] theorem State.capture_setRequest (f : Func) (r : Request) (m : Sensor) : (s.setRequest f r).capture m = s.capture m := rfl
@[simp] theorem State.context_setRequest (f : Func) (r : Request) (d : Ctx) : (s.setRequest f r).context d = s.context d := rfl
@[simp] theorem State.lamp_setRequest (f : Func) (r : Request) (m : Lamp) : (s.setRequest f r).lamp m = s.lamp m := rfl
@[simp] theorem State.grant_setRequest (f : Func) (r : Request) (d : Circuit) : (s.setRequest f r).grant d = s.grant d := rfl
@[simp] theorem State.prime_setRequest (f : Func) (r : Request) (b : Actuator) : (s.setRequest f r).prime b = s.prime b := rfl
@[simp] theorem State.cond_setRequest (f : Func) (r : Request) (k : Cond) : (s.setRequest f r).cond k = s.cond k := rfl
@[simp] theorem State.ready_setRequest (f : Func) (r : Request) (b : Actuator) (k : Stroke) : (s.setRequest f r).ready b k = s.ready b k := rfl
@[simp] theorem State.hatchPos_setRequest (f : Func) (r : Request) (h : Hatch) : (s.setRequest f r).hatchPos h = s.hatchPos h := rfl
@[simp] theorem State.slot_setGrant (c : Circuit) (g : Option Actuator) (b : Actuator) : (s.setGrant c g).slot b = s.slot b := rfl
@[simp] theorem State.link_setGrant (c : Circuit) (g : Option Actuator) (m : Link) : (s.setGrant c g).link m = s.link m := rfl
@[simp] theorem State.input_setGrant (c : Circuit) (g : Option Actuator) (j : Input) : (s.setGrant c g).input j = s.input j := rfl
@[simp] theorem State.capture_setGrant (c : Circuit) (g : Option Actuator) (m : Sensor) : (s.setGrant c g).capture m = s.capture m := rfl
@[simp] theorem State.context_setGrant (c : Circuit) (g : Option Actuator) (d : Ctx) : (s.setGrant c g).context d = s.context d := rfl
@[simp] theorem State.lamp_setGrant (c : Circuit) (g : Option Actuator) (m : Lamp) : (s.setGrant c g).lamp m = s.lamp m := rfl
@[simp] theorem State.chan_setGrant (c : Circuit) (g : Option Actuator) (d : Chan) : (s.setGrant c g).chan d = s.chan d := rfl
@[simp] theorem State.cond_setGrant (c : Circuit) (g : Option Actuator) (k : Cond) : (s.setGrant c g).cond k = s.cond k := rfl
@[simp] theorem State.ready_setGrant (c : Circuit) (g : Option Actuator) (b : Actuator) (k : Stroke) : (s.setGrant c g).ready b k = s.ready b k := rfl
@[simp] theorem State.hatchPos_setGrant (c : Circuit) (g : Option Actuator) (h : Hatch) : (s.setGrant c g).hatchPos h = s.hatchPos h := rfl
@[simp] theorem State.slot_setPrime (a : Actuator) (t : PrimeTimer) (b : Actuator) : (s.setPrime a t).slot b = s.slot b := rfl
@[simp] theorem State.link_setPrime (a : Actuator) (t : PrimeTimer) (m : Link) : (s.setPrime a t).link m = s.link m := rfl
@[simp] theorem State.input_setPrime (a : Actuator) (t : PrimeTimer) (j : Input) : (s.setPrime a t).input j = s.input j := rfl
@[simp] theorem State.capture_setPrime (a : Actuator) (t : PrimeTimer) (m : Sensor) : (s.setPrime a t).capture m = s.capture m := rfl
@[simp] theorem State.context_setPrime (a : Actuator) (t : PrimeTimer) (d : Ctx) : (s.setPrime a t).context d = s.context d := rfl
@[simp] theorem State.lamp_setPrime (a : Actuator) (t : PrimeTimer) (m : Lamp) : (s.setPrime a t).lamp m = s.lamp m := rfl
@[simp] theorem State.chan_setPrime (a : Actuator) (t : PrimeTimer) (d : Chan) : (s.setPrime a t).chan d = s.chan d := rfl
@[simp] theorem State.cond_setPrime (a : Actuator) (t : PrimeTimer) (k : Cond) : (s.setPrime a t).cond k = s.cond k := rfl
@[simp] theorem State.ready_setPrime (a : Actuator) (t : PrimeTimer) (b : Actuator) (k : Stroke) : (s.setPrime a t).ready b k = s.ready b k := rfl
@[simp] theorem State.hatchPos_setPrime (a : Actuator) (t : PrimeTimer) (h : Hatch) : (s.setPrime a t).hatchPos h = s.hatchPos h := rfl
@[simp] theorem State.slot_setDeviceState (d : DeviceState) (b : Actuator) : (s.setDeviceState d).slot b = s.slot b := rfl
@[simp] theorem State.link_setDeviceState (d : DeviceState) (m : Link) : (s.setDeviceState d).link m = s.link m := rfl
@[simp] theorem State.input_setDeviceState (d : DeviceState) (j : Input) : (s.setDeviceState d).input j = s.input j := rfl
@[simp] theorem State.capture_setDeviceState (d : DeviceState) (m : Sensor) : (s.setDeviceState d).capture m = s.capture m := rfl
@[simp] theorem State.context_setDeviceState (d : DeviceState) (d' : Ctx) : (s.setDeviceState d).context d' = s.context d' := rfl
@[simp] theorem State.lamp_setDeviceState (d : DeviceState) (m : Lamp) : (s.setDeviceState d).lamp m = s.lamp m := rfl
@[simp] theorem State.chan_setDeviceState (d : DeviceState) (d' : Chan) : (s.setDeviceState d).chan d' = s.chan d' := rfl
@[simp] theorem State.grant_setDeviceState (d : DeviceState) (d' : Circuit) : (s.setDeviceState d).grant d' = s.grant d' := rfl
@[simp] theorem State.prime_setDeviceState (d : DeviceState) (b : Actuator) : (s.setDeviceState d).prime b = s.prime b := rfl
@[simp] theorem State.cond_setDeviceState (d : DeviceState) (k : Cond) : (s.setDeviceState d).cond k = s.cond k := rfl
@[simp] theorem State.ready_setDeviceState (d : DeviceState) (b : Actuator) (k : Stroke) : (s.setDeviceState d).ready b k = s.ready b k := rfl
@[simp] theorem State.hatchPos_setDeviceState (d : DeviceState) (h : Hatch) : (s.setDeviceState d).hatchPos h = s.hatchPos h := rfl
@[simp] theorem State.slot_push (x : Arrival) (b : Actuator) : (s.push x).slot b = s.slot b := rfl
@[simp] theorem State.link_push (x : Arrival) (m : Link) : (s.push x).link m = s.link m := rfl
@[simp] theorem State.input_push (x : Arrival) (j : Input) : (s.push x).input j = s.input j := rfl
@[simp] theorem State.capture_push (x : Arrival) (m : Sensor) : (s.push x).capture m = s.capture m := rfl
@[simp] theorem State.context_push (x : Arrival) (d : Ctx) : (s.push x).context d = s.context d := rfl
@[simp] theorem State.lamp_push (x : Arrival) (m : Lamp) : (s.push x).lamp m = s.lamp m := rfl
@[simp] theorem State.chan_push (x : Arrival) (d : Chan) : (s.push x).chan d = s.chan d := rfl
@[simp] theorem State.grant_push (x : Arrival) (d : Circuit) : (s.push x).grant d = s.grant d := rfl
@[simp] theorem State.prime_push (x : Arrival) (b : Actuator) : (s.push x).prime b = s.prime b := rfl
@[simp] theorem State.cond_push (x : Arrival) (k : Cond) : (s.push x).cond k = s.cond k := rfl
@[simp] theorem State.ready_push (x : Arrival) (b : Actuator) (k : Stroke) : (s.push x).ready b k = s.ready b k := rfl
@[simp] theorem State.hatchPos_push (x : Arrival) (h : Hatch) : (s.push x).hatchPos h = s.hatchPos h := rfl
@[simp] theorem State.slot_pushAll (xs : List Arrival) (b : Actuator) : (s.pushAll xs).slot b = s.slot b := rfl
@[simp] theorem State.link_pushAll (xs : List Arrival) (m : Link) : (s.pushAll xs).link m = s.link m := rfl
@[simp] theorem State.input_pushAll (xs : List Arrival) (j : Input) : (s.pushAll xs).input j = s.input j := rfl
@[simp] theorem State.capture_pushAll (xs : List Arrival) (m : Sensor) : (s.pushAll xs).capture m = s.capture m := rfl
@[simp] theorem State.context_pushAll (xs : List Arrival) (d : Ctx) : (s.pushAll xs).context d = s.context d := rfl
@[simp] theorem State.lamp_pushAll (xs : List Arrival) (m : Lamp) : (s.pushAll xs).lamp m = s.lamp m := rfl
@[simp] theorem State.chan_pushAll (xs : List Arrival) (d : Chan) : (s.pushAll xs).chan d = s.chan d := rfl
@[simp] theorem State.grant_pushAll (xs : List Arrival) (d : Circuit) : (s.pushAll xs).grant d = s.grant d := rfl
@[simp] theorem State.prime_pushAll (xs : List Arrival) (b : Actuator) : (s.pushAll xs).prime b = s.prime b := rfl
@[simp] theorem State.cond_pushAll (xs : List Arrival) (k : Cond) : (s.pushAll xs).cond k = s.cond k := rfl
@[simp] theorem State.ready_pushAll (xs : List Arrival) (b : Actuator) (k : Stroke) : (s.pushAll xs).ready b k = s.ready b k := rfl
@[simp] theorem State.hatchPos_pushAll (xs : List Arrival) (h : Hatch) : (s.pushAll xs).hatchPos h = s.hatchPos h := rfl
@[simp] theorem State.grant_setPrime (a : Actuator) (t : PrimeTimer) (d : Circuit) : (s.setPrime a t).grant d = s.grant d := rfl
@[simp] theorem State.prime_setGrant (c : Circuit) (g : Option Actuator) (b : Actuator) :
    (s.setGrant c g).prime b = s.prime b := rfl
@[simp] theorem State.chan_setRequest (f : Func) (r : Request) (d : Chan) : (s.setRequest f r).chan d = s.chan d := rfl

end Sys2Proof.Machine
end

