-- ==== Sys2Proof/Laws/Serve.lean ====
section
/-! SUPPORT. What serving a request and taking an event come to, case by case, and what the arrival of a frame leaves as it
was. -/

namespace Sys2Proof.Machine

variable (s : State)

/-! ### The arrival of a frame -/

@[simp] theorem State.withFrame_pins (l : Link) : (s.withFrame l).pins = s.pins := rfl
@[simp] theorem State.withFrame_slots (l : Link) : (s.withFrame l).slots = s.slots := rfl
@[simp] theorem State.withFrame_arbiter (l : Link) : (s.withFrame l).arbiter = s.arbiter := rfl
@[simp] theorem State.withFrame_contexts (l : Link) : (s.withFrame l).contexts = s.contexts := rfl
@[simp] theorem State.withFrame_inputs (l : Link) : (s.withFrame l).inputs = s.inputs := rfl
@[simp] theorem State.withFrame_permit (l : Link) : (s.withFrame l).permit = s.permit := rfl
@[simp] theorem State.withFrame_captures (l : Link) : (s.withFrame l).captures = s.captures := rfl
@[simp] theorem State.withFrame_lamps (l : Link) : (s.withFrame l).lamps = s.lamps := rfl
@[simp] theorem State.withFrame_bank (l : Link) : (s.withFrame l).bank = s.bank := rfl
@[simp] theorem State.withFrame_supply (l : Link) : (s.withFrame l).supply = s.supply := rfl
@[simp] theorem State.withFrame_faults (l : Link) : (s.withFrame l).faults = s.faults := rfl
@[simp] theorem State.withFrame_tables (l : Link) : (s.withFrame l).tables = s.tables := rfl
@[simp] theorem State.withFrame_deviceState (l : Link) : (s.withFrame l).device.state = s.device.state := rfl
@[simp] theorem State.withFrame_owner (l : Link) : (s.withFrame l).device.owner = s.device.owner := rfl
@[simp] theorem State.slot_withFrame (l : Link) (a : Actuator) : (s.withFrame l).slot a = s.slot a := rfl
@[simp] theorem State.context_withFrame (l : Link) (c : Ctx) : (s.withFrame l).context c = s.context c := rfl
@[simp] theorem State.lamp_withFrame (l : Link) (n : Lamp) : (s.withFrame l).lamp n = s.lamp n := rfl
@[simp] theorem State.policy_withFrame (l : Link) (a : Actuator) (k : Stroke) :
    (s.withFrame l).policy a k = s.policy a k := rfl
@[simp] theorem State.lampCfg_withFrame (l : Link) (n : Lamp) : (s.withFrame l).lampCfg n = s.lampCfg n := rfl
@[simp] theorem State.ready_withFrame (l : Link) (a : Actuator) (k : Stroke) :
    (s.withFrame l).ready a k = s.ready a k := rfl
@[simp] theorem State.cond_withFrame (l : Link) (c : Cond) : (s.withFrame l).cond c = s.cond c := rfl
@[simp] theorem State.mapped_withFrame (l : Link) (f : Func) : (s.withFrame l).mapped f = s.mapped f := rfl
@[simp] theorem State.strokeMapped_withFrame (l : Link) (a : Actuator) (k : Stroke) :
    (s.withFrame l).strokeMapped a k = s.strokeMapped a k := rfl
@[simp] theorem State.endTest_withFrame (l : Link) (a : Actuator) (k : Stroke) (t : Nat) :
    (s.withFrame l).endTest a k t = s.endTest a k t := by cases a <;> cases k <;> rfl
@[simp] theorem State.endTestValid_withFrame (l : Link) (a : Actuator) :
    (s.withFrame l).endTestValid a = s.endTestValid a := rfl
@[simp] theorem State.takenTarget_withFrame (l : Link) (a : Actuator) (k : Stroke) (t : Option Nat) :
    (s.withFrame l).takenTarget a k t = s.takenTarget a k t := by cases a <;> rfl
@[simp] theorem State.targetClamped_withFrame (l : Link) (a : Actuator) (t : Option Nat) :
    (s.withFrame l).targetClamped a t = s.targetClamped a t := by cases a <;> rfl
@[simp] theorem State.requirement_withFrame (l : Link) (a : Actuator) (k : Stroke) (g : Option Gate) :
    (s.withFrame l).requirement a k g = s.requirement a k g := rfl
@[simp] theorem State.awake_withFrame (l : Link) : (s.withFrame l).awake = s.awake := rfl
@[simp] theorem State.asserted_withFrame (l : Link) (i : Input) : (s.withFrame l).asserted i = s.asserted i := rfl
@[simp] theorem State.deasserted_withFrame (l : Link) (i : Input) : (s.withFrame l).deasserted i = s.deasserted i := rfl
@[simp] theorem State.servesLamps_withFrame (l : Link) : (s.withFrame l).servesLamps = s.servesLamps := rfl
@[simp] theorem State.slotsIdle_withFrame (l : Link) : (s.withFrame l).slotsIdle = s.slotsIdle := rfl
@[simp] theorem State.contextsIdle_withFrame (l : Link) : (s.withFrame l).contextsIdle = s.contextsIdle := rfl

theorem State.link_withFrame_self (l : Link) : (s.withFrame l).link l = (s.link l).afterFrame := by
  simp [State.withFrame, State.link, State.setLink]

theorem State.link_withFrame_ne {l m : Link} (h : m ≠ l) : (s.withFrame l).link m = s.link m := by
  simp [State.withFrame, State.link, State.setLink, Table.get_set_ne _ _ (Ne.symm h)]

@[simp] theorem State.role_withFrame (l m : Link) : ((s.withFrame l).link m).role = (s.link m).role := by
  by_cases h : m = l
  · subst h; rw [s.link_withFrame_self]; rfl
  · rw [s.link_withFrame_ne h]

/-! ### Serving -/

variable {s} {l : Link} {code tag : Byte} {who : Permission} {inStartup : Bool} {rule : State → Answer}

/-- A permitted request that the device state serves is answered by its owner's rule (R172). -/
theorem State.serve_taken (h : s.admits l who) (hs : s.device.state ≠ .startup ∨ inStartup = true) :
    s.serve l code tag who inStartup rule = (rule (s.withFrame l)).post l code tag := by
  unfold State.serve State.checkedAnswer
  rw [if_pos h.1, State.role_withFrame, if_neg (by simp [h.2]), if_neg]
  rcases hs with hs | hs <;> simp [hs]

/-- A request of a role that may not make it is answered REFUSED_ROLE (R172, R175). -/
theorem State.serve_refusedRole (h : s.takesFrame l = true) (hw : who.allows (s.link l).role = false) :
    s.serve l code tag who inStartup rule = (s.withFrame l).replied l code tag .refusedRole [] := by
  unfold State.serve State.checkedAnswer
  rw [if_pos h, State.role_withFrame, if_pos (by simp [hw])]; rfl

/-- A permitted request that STARTUP does not serve is answered REFUSED_STATE (R172). -/
theorem State.serve_startup (h : s.admits l who) (hs : s.device.state = .startup) :
    s.serve l code tag who false rule = (s.withFrame l).replied l code tag .refusedState [] := by
  unfold State.serve State.checkedAnswer
  rw [if_pos h.1, State.role_withFrame, if_neg (by simp [h.2]), if_pos (by simp [hs])]; rfl

/-- A frame that is not taken is lost. -/
theorem State.serve_lost (h : s.takesFrame l = false) : s.serve l code tag who inStartup rule = s.losesFrame l := by
  unfold State.serve; rw [if_neg (by simp [h])]

/-! ### Events -/

variable {b : Bool} {effect : State → State}

/-- An event that comes makes its effect and all that follows from it. -/
theorem State.event_comes (hr : s.pins.resetbLow = false) (hb : b = true) : s.event b effect = (effect s).finishEvent := by
  unfold State.event; rw [if_neg (by simp [hr, hb])]

/-- An event that does not come changes nothing. -/
theorem State.event_waits (hb : b = false) : s.event b effect = s := by
  unfold State.event; rw [if_pos (by simp [hb])]

/-- Nothing comes while RESETB is held low. -/
theorem State.event_inReset (hr : s.pins.resetbLow = true) : s.event b effect = s := by
  unfold State.event; rw [if_pos (by simp [hr])]

/-- A timer at or beyond its limit. -/
theorem timerAt_some {t : Option Nat} {v limit : Nat} (h : t = some v) (hl : limit ≤ v) : timerAt t limit = true := by
  subst h; simpa [timerAt] using hl

end Sys2Proof.Machine
end

