-- ==== Sys2Proof/Laws/Facts.lean ====
section
/-! SUPPORT. What the derived facts say, each once: timers, sets of conditions, the output map, the idle tests, the lamp lead
and the dormancy test. -/

namespace Sys2Proof.Machine

variable {s : State}

/-- A timer has reached its limit. -/
theorem timerAt_iff {t : Option Nat} {limit : Nat} : timerAt t limit = true ↔ ∃ v, t = some v ∧ limit ≤ v := by
  cases t with
  | none => simp [timerAt]
  | some v =>
    simp only [Option.some.injEq, exists_eq_left']
    exact decide_eq_true_iff

/-- A set of conditions holds when each of its members does (R56). -/
theorem CondSet.within_iff {need conds : CondSet} : CondSet.within need conds = true ↔
    ∀ c, need.has c = true → conds.has c = true := by
  simp only [CondSet.within, List.all_eq_true, Bool.or_eq_true, Bool.not_eq_true']
  refine ⟨fun h c hc => ?_, fun h c _ => ?_⟩
  · simpa [hc] using h c (by cases c <;> decide)
  · cases hc : need.has c
    · exact .inl rfl
    · exact .inr (h c hc)

/-- The hold-class conditions of a set hold (R15). -/
theorem holdClassHolds_iff {need conds : CondSet} : holdClassHolds need conds = true ↔
    ∀ c : Cond, c.isHold = true → need.has c = true → conds.has c = true := by
  simp only [holdClassHolds, List.all_eq_true, Bool.or_eq_true, Bool.not_eq_true']
  refine ⟨fun h c h1 h2 => ?_, fun h c _ => ?_⟩
  · simpa [h1, h2] using h c (by cases c <;> decide)
  · cases h1 : c.isHold
    · exact .inl (by simp)
    · cases h2 : need.has c
      · exact .inl (by simp)
      · exact .inr (h c h1 h2)

/-- The channel that carries a function (R133, R134). -/
theorem State.carrier_eq_some {f : Func} {c : Chan} : s.carrier f = some c ↔ s.Carries c f := by
  unfold State.carrier State.Carries
  rw [List.find?_eq_some_iff_getElem]
  constructor
  · rintro ⟨h, i, hi, hc, hj⟩
    have hi' : i = c.val := by simpa using congrArg Fin.val hc
    refine ⟨by simpa using h, fun d hd => ?_⟩
    simpa using hj d.val (by rw [hi']; exact hd)
  · rintro ⟨h, hj⟩
    refine ⟨by simpa using h, c.val, by simp, by simp, fun j hj' => ?_⟩
    simpa using hj ⟨j, by omega⟩ hj'

/-- No channel carries the function. -/
theorem State.carrier_eq_none {f : Func} : s.carrier f = none ↔ ∀ c, ¬s.Carries c f := by
  constructor
  · intro h c hc
    rw [State.carrier_eq_some.2 hc] at h; cases h
  · intro h
    cases hc : s.carrier f with
    | none => rfl
    | some c => exact absurd (State.carrier_eq_some.1 hc) (h c)

/-- A function is mapped when exactly one entry names it (R133). -/
theorem State.mapped_iff {f : Func} : s.mapped f = true ↔ ∃ c, ∀ d, s.tables.outputMap.get d = some f ↔ d = c := by
  unfold State.mapped
  rw [beq_iff_eq, List.length_eq_one_iff]
  refine exists_congr fun c => ⟨fun h d => ?_, fun h => ?_⟩
  · have : d ∈ (List.finRange 12).filter (fun c => decide (s.tables.outputMap.get c = some f)) ↔ d = c := by rw [h]; simp
    simpa using this
  · have : (List.finRange 12).filter (fun c => decide (s.tables.outputMap.get c = some f))
        = (List.finRange 12).filter (fun d => decide (d = c)) := by
      refine List.filter_congr fun d _ => ?_
      rw [decide_eq_decide]; exact h d
    rw [this]; clear this h; revert c; decide

/-- Every slot is IDLE. -/
theorem State.slotsIdle_iff : s.slotsIdle = true ↔ ∀ a, (s.slot a).state = .idle := by
  simp only [State.slotsIdle, Actuator.all, List.all_cons, List.all_nil, Bool.and_true, Bool.and_eq_true, decide_eq_true_eq]
  exact ⟨fun h a => by cases a <;> simp [h], fun h => ⟨h _, h _, h _, h _⟩⟩

/-- Both contexts are IDLE. -/
theorem State.contextsIdle_iff : s.contextsIdle = true ↔ ∀ c, (s.context c).state = .idle := by
  simp only [State.contextsIdle, List.all_eq_true, decide_eq_true_eq]
  exact ⟨fun h c => h _ (List.get_mem _ _), fun h r hr => by
    obtain ⟨i, rfl⟩ := List.mem_iff_get.mp hr
    exact h (i.cast s.contexts.size)⟩

/-- Every lamp is without MOTION and MANUAL demand (R155). -/
theorem State.lampsQuiet_iff : s.lampsQuiet = true ↔ ∀ n, (s.lamp n).motion = .absent ∧ (s.lamp n).manual = none := by
  simp only [State.lampsQuiet, List.all_eq_true, Bool.and_eq_true, decide_eq_true_eq, Option.isNone_iff_eq_none]
  exact ⟨fun h c => h _ (List.get_mem _ _), fun h r hr => by
    obtain ⟨i, rfl⟩ := List.mem_iff_get.mp hr
    exact h (i.cast s.lamps.size)⟩

/-- The lamp lead of one lamp (R36). -/
theorem State.leadHolds_iff {n : Lamp} : s.leadHolds n = true ↔
    (∃ v, (s.lamp n).lead = some v ∧ s.leadTime ≤ v) ∧ ((s.lampCfg n).required = true → (s.lamp n).proven = .proven) := by
  simp only [State.leadHolds, Bool.and_eq_true, timerAt_iff, Bool.or_eq_true, Bool.not_eq_true', decide_eq_true_eq]
  cases (s.lampCfg n).required <;> simp

/-- The lamp lead of a slot: every mapped lamp that covers its actuator has led (R36). -/
theorem State.leadHoldsFor_iff {a : Actuator} : s.leadHoldsFor a = true ↔
    ∀ n, s.mapped (lampFunc n) = true → (s.lampCfg n).mask.get a.ix = true → s.leadHolds n = true := by
  simp only [State.leadHoldsFor, List.all_eq_true, List.mem_finRange, forall_const, Bool.or_eq_true, Bool.not_eq_true',
    Bool.and_eq_false_iff]
  refine forall_congr' fun n => ?_
  cases s.mapped (lampFunc n) <;> cases (s.lampCfg n).mask.get a.ix <;> simp

/-- The four conditions of the dormancy test (R155). -/
theorem State.mayDoze_iff : s.mayDoze = true ↔
    (s.device.state = .ready ∨ s.device.state = .unconfigured ∨ s.device.state = .stopped) ∧ s.cond .ignitionOn = false
      ∧ s.slotsIdle = true ∧ s.contextsIdle = true ∧ s.lampsQuiet = true ∧ timerAt s.device.dormancy s.dormancyDelay = true := by
  simp only [State.mayDoze, Bool.and_eq_true, Bool.or_eq_true, decide_eq_true_eq, Bool.not_eq_true']
  tauto

/-- The record of a context's current step. -/
theorem State.stepRecord_of_step {c : Ctx} {i : Fin 32} (h : (s.context c).step = some i) :
    s.stepRecord c = s.tables.steps.get i := by
  rw [State.stepRecord, h]

/-! ### Settling inputs -/

/-- Beside the input that settles, its hatch's other end switch settles or nothing does (R92). -/
theorem State.settleOther_cases (i : Input) :
    (s.settleOther i = s ∧ ∀ j, otherSwitch i = some j → s.debounceDue j = false) ∨
      ∃ j, otherSwitch i = some j ∧ s.debounceDue j = true ∧ s.settleOther i = s.settleInput j := by
  unfold State.settleOther
  cases h : otherSwitch i with
  | none => exact .inl ⟨rfl, fun j hj => by cases hj⟩
  | some j =>
    cases hd : s.debounceDue j with
    | false => exact .inl ⟨by simp [hd], fun k hk => by cases hk; exact hd⟩
    | true => exact .inr ⟨j, rfl, hd, by simp [hd]⟩

/-- Settling writes the records of the inputs alone (R44). -/
theorem State.settle_inputs (i : Input) : ∃ t, (s.settleOther i).settleInput i = { s with inputs := t } := by
  obtain ⟨h, -⟩ | ⟨j, -, -, h⟩ := s.settleOther_cases i <;> rw [h] <;> exact ⟨_, rfl⟩

/-- Settling leaves alone every input that is neither the one that settles nor its other end switch (R44, R92). -/
theorem State.settle_input {i j : Input} (h : j ≠ i) (ho : otherSwitch i ≠ some j) :
    ((s.settleOther i).settleInput i).input j = s.input j := by
  obtain ⟨e, -⟩ | ⟨k, hk, -, e⟩ := s.settleOther_cases i <;> rw [e]
  · rw [State.settleInput, State.input_setInput, if_neg (Ne.symm h)]
  · have hkj : k ≠ j := fun e => ho (e ▸ hk)
    rw [State.settleInput, State.input_setInput, if_neg (Ne.symm h), State.settleInput, State.input_setInput, if_neg hkj]

end Sys2Proof.Machine
end

