-- ==== Sys2Proof/Laws/Hand.lean ====
section
/-! SUPPORT. What the hand-offs inside a step leave alone: every operation of the blocks keeps the surroundings. -/

namespace Sys2Proof.Machine

open State (surroundings)

variable (s : State)

@[simp] theorem State.setSlot_around (a : Actuator) (r : Slot) : (s.setSlot a r).surroundings = s.surroundings := rfl
@[simp] theorem State.setContext_around (c : Ctx) (r : Context) : (s.setContext c r).surroundings = s.surroundings := rfl
@[simp] theorem State.setLamp_around (n : Lamp) (r : LampRec) : (s.setLamp n r).surroundings = s.surroundings := rfl
@[simp] theorem State.setChan_around (c : Chan) (r : ChanRec) : (s.setChan c r).surroundings = s.surroundings := rfl
@[simp] theorem State.setGrant_around (c : Circuit) (g : Option Actuator) :
    (s.setGrant c g).surroundings = s.surroundings := rfl
@[simp] theorem State.setPrime_around (a : Actuator) (t : PrimeTimer) :
    (s.setPrime a t).surroundings = s.surroundings := rfl
@[simp] theorem State.setDeviceState_around (d : DeviceState) : (s.setDeviceState d).surroundings = s.surroundings := rfl
@[simp] theorem State.setEntries_around (es : List FaultEntry) : (s.setEntries es).surroundings = s.surroundings := rfl
@[simp] theorem State.push_around (x : Arrival) : (s.push x).surroundings = s.surroundings := rfl
@[simp] theorem State.pushAll_around (xs : List Arrival) : (s.pushAll xs).surroundings = s.surroundings := rfl
@[simp] theorem State.deriveHatches_around : s.deriveHatches.surroundings = s.surroundings := rfl
@[simp] theorem State.deriveConds_around : s.deriveConds.surroundings = s.surroundings := rfl
@[simp] theorem State.deriveLamps_around : s.deriveLamps.surroundings = s.surroundings := rfl
@[simp] theorem State.deriveReady_around : s.deriveReady.surroundings = s.surroundings := rfl
@[simp] theorem State.deriveRequests_around : s.deriveRequests.surroundings = s.surroundings := rfl
@[simp] theorem State.deriveChannels_around : s.deriveChannels.surroundings = s.surroundings := rfl
@[simp] theorem State.deriveStuck_around : s.deriveStuck.surroundings = s.surroundings := rfl
@[simp] theorem State.derive_around : s.derive.surroundings = s.surroundings := by
  simp [State.derive]

/-- An operation made at every member of a list keeps what one of them keeps. -/
theorem foldl_keeps {α β γ : Type} (f : α → γ) (op : α → β → α) (h : ∀ s x, f (op s x) = f s) (xs : List β) (s : α) :
    f (xs.foldl op s) = f s := by
  induction xs generalizing s with
  | nil => rfl
  | cons x xs ih => rw [List.foldl_cons, ih, h]

/-! ### Fault table -/

@[simp] theorem State.releaseLampOf_around (k : FaultKind) (u : Subject) :
    (s.releaseLampOf k u).surroundings = s.surroundings := by
  unfold State.releaseLampOf; split <;> rfl

@[simp] theorem State.releaseChanOf_around (k : FaultKind) (u : Subject) :
    (s.releaseChanOf k u).surroundings = s.surroundings := by
  unfold State.releaseChanOf; split <;> rfl

@[simp] theorem State.clearFull_around : s.clearFull.surroundings = s.surroundings := by
  unfold State.clearFull; split <;> rfl

/-- A removal touches the fault table, the lamps and the channels, and nothing else (R165). -/
theorem State.removeEntry_rest (k : FaultKind) (u : Subject) : s.removeEntry k u = { s with
    faults := (s.removeEntry k u).faults, lamps := (s.removeEntry k u).lamps, bank := (s.removeEntry k u).bank } := by
  unfold State.removeEntry State.clearFull State.releaseChanOf State.releaseLampOf
  repeat' split
  all_goals rfl

/-- So do several. -/
theorem State.removeEntries_rest (es : List FaultEntry) : s.removeEntries es = { s with
    faults := (s.removeEntries es).faults, lamps := (s.removeEntries es).lamps, bank := (s.removeEntries es).bank } := by
  have h := foldl_keeps (fun t : State => { t with faults := s.faults, lamps := s.lamps, bank := s.bank })
    (fun t (e : FaultEntry) => t.removeEntry e.kind e.subject) (fun t e => by rw [State.removeEntry_rest]) es s
  exact congrArg (fun u : State => { u with
    faults := (s.removeEntries es).faults, lamps := (s.removeEntries es).lamps, bank := (s.removeEntries es).bank }) h

/-- And so does ACK ALL (R164). -/
theorem State.acknowledgeAll_rest : s.acknowledgeAll = { s with
    faults := s.acknowledgeAll.faults, lamps := s.acknowledgeAll.lamps, bank := s.acknowledgeAll.bank } := by
  unfold State.acknowledgeAll; rw [State.removeEntries_rest]; rfl

@[simp] theorem State.acknowledgeAll_around : s.acknowledgeAll.surroundings = s.surroundings := by
  rw [State.acknowledgeAll_rest]; rfl

theorem State.entries_removeEntry (k : FaultKind) (u : Subject) :
    (s.removeEntry k u).faults.entries = s.faults.entries.filter fun e => !e.isFor k u := by
  unfold State.removeEntry State.clearFull State.releaseChanOf State.releaseLampOf
  repeat' split
  all_goals rfl

/-- The entries that several removals leave are those that none of them names. -/
theorem State.entries_removeEntries (es : List FaultEntry) : (s.removeEntries es).faults.entries
    = s.faults.entries.filter fun x => es.all fun e => !x.isFor e.kind e.subject := by
  unfold State.removeEntries
  induction es generalizing s with
  | nil => simp
  | cons e es ih => simp [ih, State.entries_removeEntry, List.filter_filter, Bool.and_comm]

@[simp] theorem State.removeEntry_around (k : FaultKind) (u : Subject) :
    (s.removeEntry k u).surroundings = s.surroundings := by
  simp [State.removeEntry]

@[simp] theorem State.takeOccurrence_around (k : FaultKind) (u : Subject) :
    (s.takeOccurrence k u).surroundings = s.surroundings := by
  unfold State.takeOccurrence State.appendEntry
  split
  · rfl
  · split
    · rfl
    · split
      · simp
      · rfl

@[simp] theorem State.takeConditionEnd_around (k : FaultKind) (u : Subject) :
    (s.takeConditionEnd k u).surroundings = s.surroundings := by
  unfold State.takeConditionEnd
  repeat' split
  all_goals simp

/-! ### Slots -/

@[simp] theorem State.stopProfile_around (a : Actuator) : (s.stopProfile a).surroundings = s.surroundings := by
  unfold State.stopProfile; split <;> rfl

@[simp] theorem State.stopOverload_around (a : Actuator) : (s.stopOverload a).surroundings = s.surroundings := by
  unfold State.stopOverload; split <;> rfl

@[simp] theorem State.startProfile_around : s.startProfile.surroundings = s.surroundings := rfl

@[simp] theorem State.testOverload_around : s.testOverload.surroundings = s.surroundings := by
  unfold State.testOverload; dsimp only; repeat' split
  all_goals rfl

@[simp] theorem State.releaseGrant_around (a : Actuator) : (s.releaseGrant a).surroundings = s.surroundings := by
  unfold State.releaseGrant; split <;> rfl

@[simp] theorem State.leaveCallList_around (a : Actuator) : (s.leaveCallList a).surroundings = s.surroundings := by
  unfold State.leaveCallList; split <;> rfl

@[simp] theorem State.endRun_around (c : Ctx) (r : RunResult) : (s.endRun c r).surroundings = s.surroundings := rfl

@[simp] theorem State.stepDone_around (c : Ctx) (ok : Bool) : (s.stepDone c ok).surroundings = s.surroundings := by
  unfold State.stepDone; dsimp only; repeat' split
  all_goals simp

@[simp] theorem State.judgeReport_around (c : Ctx) (a : Actuator) (o : Ending) :
    (s.judgeReport c a o).surroundings = s.surroundings := by
  unfold State.judgeReport; dsimp only; repeat' split
  all_goals simp

@[simp] theorem State.completeRecord_around (a : Actuator) (o : Ending) :
    (s.completeRecord a o).surroundings = s.surroundings := by
  simp [State.completeRecord]

@[simp] theorem State.complete_around (a : Actuator) (o : Ending) :
    (s.complete a o).surroundings = s.surroundings := by
  unfold State.complete; dsimp only; split <;> simp

@[simp] theorem State.endMotion_around (a : Actuator) (o : Ending) : (s.endMotion a o).surroundings = s.surroundings := by
  unfold State.endMotion; dsimp only; repeat' split
  all_goals simp

@[simp] theorem State.endGranted_around (a : Actuator) (o : Ending) : (s.endGranted a o).surroundings = s.surroundings := by
  unfold State.endGranted; split <;> simp

@[simp] theorem State.enterPriming_around (a : Actuator) : (s.enterPriming a).surroundings = s.surroundings := rfl

@[simp] theorem State.enterHolding_around (a : Actuator) : (s.enterHolding a).surroundings = s.surroundings := by
  simp [State.enterHolding]

@[simp] theorem State.runEndTest_around (a : Actuator) : (s.runEndTest a).surroundings = s.surroundings := by
  unfold State.runEndTest; dsimp only; repeat' split
  all_goals simp

@[simp] theorem State.enterRunning_around (a : Actuator) : (s.enterRunning a).surroundings = s.surroundings := by
  unfold State.enterRunning; dsimp only; repeat' split
  all_goals simp

@[simp] theorem State.primeTestOf_around (a : Actuator) : (s.primeTestOf a).surroundings = s.surroundings := by
  unfold State.primeTestOf; dsimp only; split <;> simp

@[simp] theorem State.primeTests_around : s.primeTests.surroundings = s.surroundings :=
  foldl_keeps _ _ (fun s a => s.primeTestOf_around a) _ _

@[simp] theorem State.enterWaiting_around (a : Actuator) (k : Stroke) (t : Option Nat) (g : Option Gate) (w : Starter) :
    (s.enterWaiting a k t g w).surroundings = s.surroundings := rfl

@[simp] theorem State.takeMotion_around (a : Actuator) (k : Stroke) (t : Option Nat) (g : Option Gate) (w : Starter) :
    (s.takeMotion a k t g w).2.surroundings = s.surroundings := by
  unfold State.takeMotion; dsimp only; repeat' split
  all_goals simp

@[simp] theorem State.postMotion_around (c : Ctx) (m : MotionStep) :
    (s.postMotion c m).2.surroundings = s.surroundings := by
  unfold State.postMotion; dsimp only; repeat' split
  all_goals simp

@[simp] theorem State.holderLeaves_around (a : Actuator) (l : Link) (o : Ending) :
    (s.holderLeaves a l o).surroundings = s.surroundings := by
  unfold State.holderLeaves; dsimp only; split <;> simp

@[simp] theorem State.watcherLeaves_around (a : Actuator) (l : Link) :
    (s.watcherLeaves a l).surroundings = s.surroundings := by
  unfold State.watcherLeaves; dsimp only; split <;> simp

@[simp] theorem State.lapseHolder_around (a : Actuator) (l : Link) : (s.lapseHolder a l).surroundings = s.surroundings := by
  unfold State.lapseHolder; split <;> simp

@[simp] theorem State.takeConflict_around (a : Actuator) (l : Link) :
    (s.takeConflict a l).surroundings = s.surroundings := by
  simp [State.takeConflict, State.joinHolders]

@[simp] theorem State.contextEnds_around (c : Ctx) (a : Actuator) (o : Ending) :
    (s.contextEnds c a o).surroundings = s.surroundings := by
  unfold State.contextEnds; split <;> simp

@[simp] theorem State.stopSlot_around (a : Actuator) : (s.stopSlot a).surroundings = s.surroundings := by
  unfold State.stopSlot; dsimp only; split <;> simp

@[simp] theorem State.updateRunning_around : s.updateRunning.surroundings = s.surroundings := by
  unfold State.updateRunning State.setDuty; dsimp only; split
  · simp
  · rfl

@[simp] theorem State.updateSettling_around : s.updateSettling.surroundings = s.surroundings := by
  unfold State.updateSettling State.setDuty; dsimp only; split
  · simp
  · rfl

/-! ### Rounds -/

@[simp] theorem State.grantSlot_around (a : Actuator) : (s.grantSlot a).surroundings = s.surroundings := rfl

@[simp] theorem State.takeRound_around : s.takeRound.surroundings = s.surroundings := by
  unfold State.takeRound
  split
  · exact foldl_keeps _ _ (fun s a => s.grantSlot_around a) _ _
  · rfl

/-! ### Sequences -/

@[simp] theorem State.takeAnswer_around (c : Ctx) (r : Result) : (s.takeAnswer c r).surroundings = s.surroundings := by
  cases r <;> simp [State.takeAnswer]

@[simp] theorem State.tryStep_around (c : Ctx) : (s.tryStep c).surroundings = s.surroundings := by
  unfold State.tryStep; dsimp only; repeat' split
  all_goals simp

@[simp] theorem State.startStep_around (c : Ctx) (i : Fin 32) : (s.startStep c i).surroundings = s.surroundings := by
  unfold State.startStep; dsimp only; repeat' split
  all_goals simp

@[simp] theorem State.slotFree_around (c : Ctx) (a : Actuator) : (s.slotFree c a).surroundings = s.surroundings := by
  unfold State.slotFree; split <;> simp

@[simp] theorem State.takeSlotFree_around (a : Actuator) : (s.takeSlotFree a).surroundings = s.surroundings := by
  simp [State.takeSlotFree]

@[simp] theorem State.contextCondition_around (c : Ctx) (n : Cond) :
    (s.contextCondition c n).surroundings = s.surroundings := by
  unfold State.contextCondition; dsimp only; repeat' split
  all_goals simp

@[simp] theorem State.stopContext_around (c : Ctx) : (s.stopContext c).surroundings = s.surroundings := by
  unfold State.stopContext; split <;> simp

@[simp] theorem State.endMotionOf_around (c : Ctx) (inHand : Option Actuator) (o : Ending) :
    (s.endMotionOf c inHand o).surroundings = s.surroundings := by
  unfold State.endMotionOf; split <;> simp

@[simp] theorem State.stepTimeout_around (c : Ctx) : (s.stepTimeout c).surroundings = s.surroundings := by
  unfold State.stepTimeout; split <;> simp

@[simp] theorem State.lapseRun_around (c : Ctx) : (s.lapseRun c).surroundings = s.surroundings := by
  simp [State.lapseRun]

@[simp] theorem State.resumeRun_around (c : Ctx) : (s.resumeRun c).surroundings = s.surroundings := by
  simp [State.resumeRun]

@[simp] theorem State.cancelRun_around (c : Ctx) : (s.cancelRun c).surroundings = s.surroundings := by
  simp [State.cancelRun]

@[simp] theorem State.startRun_around (c : Ctx) (n : Fin 8) (l : Link) (i : Fin 32) :
    (s.startRun c n l i).surroundings = s.surroundings := rfl

/-! ### Device -/

theorem State.setArbiter_around (r : Arbiter) : ({ s with arbiter := r } : State).surroundings = s.surroundings := rfl

@[simp] theorem State.setFlag_around (b : Bool) :
    ({ s with device := { s.device with estopFlag := b } } : State).surroundings = s.surroundings := rfl

@[simp] theorem State.enterStopped_around : s.enterStopped.surroundings = s.surroundings := by
  unfold State.enterStopped; dsimp only
  rw [State.setArbiter_around, foldl_keeps surroundings _ (fun s a => s.stopSlot_around a)]
  simp

@[simp] theorem State.movementRule_around : s.movementRule.surroundings = s.surroundings := by
  unfold State.movementRule; split <;> simp

@[simp] theorem State.estopChanged_around : s.estopChanged.surroundings = s.surroundings := by
  unfold State.estopChanged; dsimp only; repeat' split
  all_goals simp

@[simp] theorem State.pumpRunLost_around : s.pumpRunLost.surroundings = s.surroundings := by
  unfold State.pumpRunLost; repeat' split
  all_goals simp

@[simp] theorem State.failPriming_around (a : Actuator) : (s.failPriming a).surroundings = s.surroundings := by
  simp [State.failPriming]

@[simp] theorem State.passedPriming_around (a : Actuator) : (s.passedPriming a).surroundings = s.surroundings := by
  unfold State.passedPriming; split <;> simp

@[simp] theorem State.endStuck_around : s.endStuck.surroundings = s.surroundings := by
  unfold State.endStuck; split <;> rfl

@[simp] theorem State.pumprunChanged_around : s.pumprunChanged.surroundings = s.surroundings := by
  unfold State.pumprunChanged
  split
  · rfl
  · rw [State.endStuck_around, foldl_keeps surroundings _ (fun s a => s.passedPriming_around a), State.pumpRunLost_around]

@[simp] theorem State.inputChanged_around (i : Input) : (s.inputChanged i).surroundings = s.surroundings := by
  unfold State.inputChanged; split <;> simp

/-! ### Arrivals -/

@[simp] theorem State.loseCondition_around (c : Cond) (a : Actuator) :
    (State.loseCondition c s a).surroundings = s.surroundings := by
  unfold State.loseCondition; dsimp only; repeat' split
  all_goals simp

@[simp] theorem State.regainGate_around (a : Actuator) : (s.regainGate a).surroundings = s.surroundings := by
  unfold State.regainGate; dsimp only; split <;> simp

@[simp] theorem State.slotsTakeCondition_around (c : Cond) (v : Bool) :
    (s.slotsTakeCondition c v).surroundings = s.surroundings := by
  unfold State.slotsTakeCondition
  split
  · split
    · exact foldl_keeps _ _ (fun s a => s.regainGate_around a) _ _
    · rfl
  · exact foldl_keeps _ _ (fun s a => s.loseCondition_around c a) _ _

@[simp] theorem State.takeCondition_around (c : Cond) (v : Bool) :
    (s.takeCondition c v).surroundings = s.surroundings := by
  unfold State.takeCondition State.contextsTakeCondition; dsimp only; split <;> simp

@[simp] theorem State.takeReadiness_around (a : Actuator) (k : Stroke) (c : Option Cause) :
    (s.takeReadiness a k c).surroundings = s.surroundings := by
  unfold State.takeReadiness; repeat' split
  all_goals simp

@[simp] theorem State.judgeSwitches_around (h : Hatch) : (s.judgeSwitches h).surroundings = s.surroundings := by
  unfold State.judgeSwitches; dsimp only; repeat' split
  all_goals rfl

@[simp] theorem State.takeHatchMove_around (h : Hatch) : (s.takeHatchMove h).surroundings = s.surroundings := by
  simp [State.takeHatchMove]

@[simp] theorem State.takeReported_around (m : Sensor) : (s.takeReported m).surroundings = s.surroundings := by
  cases m <;> simp [State.takeReported]

@[simp] theorem State.take_around (x : Arrival) : (s.take x).surroundings = s.surroundings := by
  cases x <;> simp [State.take]

/-- A property kept by every arrival at its owner and by deriving is kept by handing arrivals on. -/
theorem State.settle_keeps (P : State → Prop) (hd : ∀ s : State, P s → P s.derive) (ht : ∀ (s : State) x, P s → P (s.take x))
    (ha : ∀ (s : State) xs, P s → P { s with agenda := xs }) (n : Nat) (s : State) (h : P s) : P (State.settle n s) := by
  induction n generalizing s with
  | zero => exact h
  | succ n ih =>
    unfold State.settle
    split
    · exact h
    · exact ih _ (ha _ _ (hd _ (ht _ _ (ha _ _ h))))

/-- As `settle_keeps`, from the effect of a step to its end. -/
theorem State.finish_keeps (P : State → Prop) (hd : ∀ s : State, P s → P s.derive) (ht : ∀ (s : State) x, P s → P (s.take x))
    (ha : ∀ (s : State) xs, P s → P { s with agenda := xs }) (s : State) (h : P s) : P s.finish :=
  State.settle_keeps P hd ht ha _ _ (hd _ h)

/-- The surroundings stand through a step's hand-offs. -/
@[simp] theorem State.finish_around : s.finish.surroundings = s.surroundings :=
  State.finish_keeps (fun t => t.surroundings = s.surroundings) (fun t h => t.derive_around.trans h)
    (fun t x h => (t.take_around x).trans h) (fun _ _ h => h) s rfl

end Sys2Proof.Machine
end

