-- ==== Sys2Proof/Laws/Frames.lean ====
section
/-! SUPPORT. Which operations inside a step leave the device state alone, and which the fault table: every one but STOPPED
entry, and every one but the table's own. -/

namespace Sys2Proof.Machine

variable (s : State)

/-! ### The device state -/

@[simp] theorem State.setEntries_deviceState (es : List FaultEntry) : (s.setEntries es).device.state = s.device.state := rfl
@[simp] theorem State.deriveHatches_deviceState : s.deriveHatches.device.state = s.device.state := rfl
@[simp] theorem State.deriveConds_deviceState : s.deriveConds.device.state = s.device.state := rfl
@[simp] theorem State.deriveLamps_deviceState : s.deriveLamps.device.state = s.device.state := rfl
@[simp] theorem State.deriveReady_deviceState : s.deriveReady.device.state = s.device.state := rfl
@[simp] theorem State.deriveRequests_deviceState : s.deriveRequests.device.state = s.device.state := rfl
@[simp] theorem State.deriveChannels_deviceState : s.deriveChannels.device.state = s.device.state := rfl
@[simp] theorem State.deriveStuck_deviceState : s.deriveStuck.device.state = s.device.state := rfl

@[simp] theorem State.derive_deviceState : s.derive.device.state = s.device.state := by
  simp [State.derive]

@[simp] theorem State.releaseLampOf_deviceState (k : FaultKind) (u : Subject) :
    (s.releaseLampOf k u).device.state = s.device.state := by
  unfold State.releaseLampOf; split <;> rfl

@[simp] theorem State.releaseChanOf_deviceState (k : FaultKind) (u : Subject) :
    (s.releaseChanOf k u).device.state = s.device.state := by
  unfold State.releaseChanOf; split <;> rfl

@[simp] theorem State.clearFull_deviceState : s.clearFull.device.state = s.device.state := by
  unfold State.clearFull; split <;> rfl

@[simp] theorem State.removeEntry_deviceState (k : FaultKind) (u : Subject) :
    (s.removeEntry k u).device.state = s.device.state := by
  simp [State.removeEntry]

@[simp] theorem State.acknowledgeAll_deviceState : s.acknowledgeAll.device.state = s.device.state := by
  rw [State.acknowledgeAll_rest]

@[simp] theorem State.takeOccurrence_deviceState (k : FaultKind) (u : Subject) :
    (s.takeOccurrence k u).device.state = s.device.state := by
  unfold State.takeOccurrence State.appendEntry
  split
  · rfl
  · split
    · rfl
    · split
      · simp
      · rfl

@[simp] theorem State.takeConditionEnd_deviceState (k : FaultKind) (u : Subject) :
    (s.takeConditionEnd k u).device.state = s.device.state := by
  unfold State.takeConditionEnd
  repeat' split
  all_goals simp

@[simp] theorem State.stopProfile_deviceState (a : Actuator) : (s.stopProfile a).device.state = s.device.state := by
  unfold State.stopProfile; split <;> rfl

@[simp] theorem State.stopOverload_deviceState (a : Actuator) : (s.stopOverload a).device.state = s.device.state := by
  unfold State.stopOverload; split <;> rfl

@[simp] theorem State.startProfile_deviceState : s.startProfile.device.state = s.device.state := rfl

@[simp] theorem State.testOverload_deviceState : s.testOverload.device.state = s.device.state := by
  unfold State.testOverload; dsimp only; repeat' split
  all_goals rfl

@[simp] theorem State.releaseGrant_deviceState (a : Actuator) : (s.releaseGrant a).device.state = s.device.state := by
  unfold State.releaseGrant; split <;> rfl

@[simp] theorem State.leaveCallList_deviceState (a : Actuator) :
    (s.leaveCallList a).device.state = s.device.state := by
  unfold State.leaveCallList; split <;> rfl

@[simp] theorem State.endRun_deviceState (c : Ctx) (r : RunResult) : (s.endRun c r).device.state = s.device.state := rfl

@[simp] theorem State.stepDone_deviceState (c : Ctx) (ok : Bool) :
    (s.stepDone c ok).device.state = s.device.state := by
  unfold State.stepDone; dsimp only; repeat' split
  all_goals simp

@[simp] theorem State.judgeReport_deviceState (c : Ctx) (a : Actuator) (o : Ending) :
    (s.judgeReport c a o).device.state = s.device.state := by
  unfold State.judgeReport; dsimp only; repeat' split
  all_goals simp

@[simp] theorem State.completeRecord_deviceState (a : Actuator) (o : Ending) :
    (s.completeRecord a o).device.state = s.device.state := by
  simp [State.completeRecord]

@[simp] theorem State.complete_deviceState (a : Actuator) (o : Ending) :
    (s.complete a o).device.state = s.device.state := by
  unfold State.complete; dsimp only; split <;> simp

@[simp] theorem State.endMotion_deviceState (a : Actuator) (o : Ending) :
    (s.endMotion a o).device.state = s.device.state := by
  unfold State.endMotion; dsimp only; repeat' split
  all_goals simp

@[simp] theorem State.endGranted_deviceState (a : Actuator) (o : Ending) :
    (s.endGranted a o).device.state = s.device.state := by
  unfold State.endGranted; split <;> simp

@[simp] theorem State.enterPriming_deviceState (a : Actuator) : (s.enterPriming a).device.state = s.device.state := rfl

@[simp] theorem State.enterHolding_deviceState (a : Actuator) : (s.enterHolding a).device.state = s.device.state := by
  simp [State.enterHolding]

@[simp] theorem State.runEndTest_deviceState (a : Actuator) : (s.runEndTest a).device.state = s.device.state := by
  unfold State.runEndTest; dsimp only; repeat' split
  all_goals simp

@[simp] theorem State.enterRunning_deviceState (a : Actuator) : (s.enterRunning a).device.state = s.device.state := by
  unfold State.enterRunning; dsimp only; repeat' split
  all_goals simp

@[simp] theorem State.primeTestOf_deviceState (a : Actuator) : (s.primeTestOf a).device.state = s.device.state := by
  unfold State.primeTestOf; dsimp only; split <;> simp

@[simp] theorem State.primeTests_deviceState : s.primeTests.device.state = s.device.state :=
  foldl_keeps (fun s : State => s.device.state) _ (fun s a => s.primeTestOf_deviceState a) _ _

@[simp] theorem State.enterWaiting_deviceState (a : Actuator) (k : Stroke) (t : Option Nat) (g : Option Gate) (w : Starter) :
    (s.enterWaiting a k t g w).device.state = s.device.state := rfl

@[simp] theorem State.takeMotion_deviceState (a : Actuator) (k : Stroke) (t : Option Nat) (g : Option Gate) (w : Starter) :
    (s.takeMotion a k t g w).2.device.state = s.device.state := by
  unfold State.takeMotion; dsimp only; repeat' split
  all_goals simp

@[simp] theorem State.postMotion_deviceState (c : Ctx) (m : MotionStep) :
    (s.postMotion c m).2.device.state = s.device.state := by
  unfold State.postMotion; dsimp only; repeat' split
  all_goals simp

@[simp] theorem State.holderLeaves_deviceState (a : Actuator) (l : Link) (o : Ending) :
    (s.holderLeaves a l o).device.state = s.device.state := by
  unfold State.holderLeaves; dsimp only; split <;> simp

@[simp] theorem State.watcherLeaves_deviceState (a : Actuator) (l : Link) :
    (s.watcherLeaves a l).device.state = s.device.state := by
  unfold State.watcherLeaves; dsimp only; split <;> simp

@[simp] theorem State.lapseHolder_deviceState (a : Actuator) (l : Link) :
    (s.lapseHolder a l).device.state = s.device.state := by
  unfold State.lapseHolder; split <;> simp

@[simp] theorem State.takeConflict_deviceState (a : Actuator) (l : Link) :
    (s.takeConflict a l).device.state = s.device.state := by
  simp [State.takeConflict, State.joinHolders]

@[simp] theorem State.contextEnds_deviceState (c : Ctx) (a : Actuator) (o : Ending) :
    (s.contextEnds c a o).device.state = s.device.state := by
  unfold State.contextEnds; split <;> simp

@[simp] theorem State.stopSlot_deviceState (a : Actuator) : (s.stopSlot a).device.state = s.device.state := by
  unfold State.stopSlot; dsimp only; split <;> simp

@[simp] theorem State.updateRunning_deviceState : s.updateRunning.device.state = s.device.state := by
  unfold State.updateRunning State.setDuty; dsimp only; split
  · simp
  · rfl

@[simp] theorem State.updateSettling_deviceState : s.updateSettling.device.state = s.device.state := by
  unfold State.updateSettling State.setDuty; dsimp only; split
  · simp
  · rfl

@[simp] theorem State.grantSlot_deviceState (a : Actuator) : (s.grantSlot a).device.state = s.device.state := rfl

@[simp] theorem State.takeRound_deviceState : s.takeRound.device.state = s.device.state := by
  unfold State.takeRound
  split
  · exact foldl_keeps (fun s : State => s.device.state) _ (fun s a => s.grantSlot_deviceState a) _ _
  · rfl

@[simp] theorem State.takeAnswer_deviceState (c : Ctx) (r : Result) :
    (s.takeAnswer c r).device.state = s.device.state := by
  cases r <;> simp [State.takeAnswer]

@[simp] theorem State.tryStep_deviceState (c : Ctx) : (s.tryStep c).device.state = s.device.state := by
  unfold State.tryStep; dsimp only; repeat' split
  all_goals simp

@[simp] theorem State.startStep_deviceState (c : Ctx) (i : Fin 32) :
    (s.startStep c i).device.state = s.device.state := by
  unfold State.startStep; dsimp only; repeat' split
  all_goals simp

@[simp] theorem State.slotFree_deviceState (c : Ctx) (a : Actuator) :
    (s.slotFree c a).device.state = s.device.state := by
  unfold State.slotFree; split <;> simp

@[simp] theorem State.takeSlotFree_deviceState (a : Actuator) : (s.takeSlotFree a).device.state = s.device.state := by
  simp [State.takeSlotFree]

@[simp] theorem State.contextCondition_deviceState (c : Ctx) (n : Cond) :
    (s.contextCondition c n).device.state = s.device.state := by
  unfold State.contextCondition; dsimp only; repeat' split
  all_goals simp

@[simp] theorem State.stopContext_deviceState (c : Ctx) : (s.stopContext c).device.state = s.device.state := by
  unfold State.stopContext; split <;> simp

@[simp] theorem State.endMotionOf_deviceState (c : Ctx) (inHand : Option Actuator) (o : Ending) :
    (s.endMotionOf c inHand o).device.state = s.device.state := by
  unfold State.endMotionOf; split <;> simp

@[simp] theorem State.stepTimeout_deviceState (c : Ctx) : (s.stepTimeout c).device.state = s.device.state := by
  unfold State.stepTimeout; split <;> simp

@[simp] theorem State.lapseRun_deviceState (c : Ctx) : (s.lapseRun c).device.state = s.device.state := by
  simp [State.lapseRun]

@[simp] theorem State.resumeRun_deviceState (c : Ctx) : (s.resumeRun c).device.state = s.device.state := by
  simp [State.resumeRun]

@[simp] theorem State.cancelRun_deviceState (c : Ctx) : (s.cancelRun c).device.state = s.device.state := by
  simp [State.cancelRun]

@[simp] theorem State.startRun_deviceState (c : Ctx) (n : Fin 8) (l : Link) (i : Fin 32) :
    (s.startRun c n l i).device.state = s.device.state := rfl

theorem State.setArbiter_deviceState (r : Arbiter) : ({ s with arbiter := r } : State).device.state = s.device.state := rfl

@[simp] theorem State.pumpRunLost_deviceState : s.pumpRunLost.device.state = s.device.state := by
  unfold State.pumpRunLost; repeat' split
  all_goals simp

@[simp] theorem State.failPriming_deviceState (a : Actuator) : (s.failPriming a).device.state = s.device.state := by
  simp [State.failPriming]

@[simp] theorem State.passedPriming_deviceState (a : Actuator) :
    (s.passedPriming a).device.state = s.device.state := by
  unfold State.passedPriming; split <;> simp

@[simp] theorem State.endStuck_deviceState : s.endStuck.device.state = s.device.state := by
  unfold State.endStuck; split <;> rfl

@[simp] theorem State.pumprunChanged_deviceState : s.pumprunChanged.device.state = s.device.state := by
  unfold State.pumprunChanged
  split
  · rfl
  · rw [State.endStuck_deviceState,
      foldl_keeps (fun s : State => s.device.state) _ (fun s a => s.passedPriming_deviceState a),
      State.pumpRunLost_deviceState]

@[simp] theorem State.loseCondition_deviceState (c : Cond) (a : Actuator) :
    (State.loseCondition c s a).device.state = s.device.state := by
  unfold State.loseCondition; dsimp only; repeat' split
  all_goals simp

@[simp] theorem State.regainGate_deviceState (a : Actuator) : (s.regainGate a).device.state = s.device.state := by
  unfold State.regainGate; dsimp only; split <;> simp

@[simp] theorem State.slotsTakeCondition_deviceState (c : Cond) (v : Bool) :
    (s.slotsTakeCondition c v).device.state = s.device.state := by
  unfold State.slotsTakeCondition
  split
  · split
    · exact foldl_keeps (fun s : State => s.device.state) _ (fun s a => s.regainGate_deviceState a) _ _
    · rfl
  · exact foldl_keeps (fun s : State => s.device.state) _ (fun s a => s.loseCondition_deviceState c a) _ _

@[simp] theorem State.takeCondition_deviceState (c : Cond) (v : Bool) :
    (s.takeCondition c v).device.state = s.device.state := by
  unfold State.takeCondition State.contextsTakeCondition; dsimp only; split <;> simp

@[simp] theorem State.takeReadiness_deviceState (a : Actuator) (k : Stroke) (c : Option Cause) :
    (s.takeReadiness a k c).device.state = s.device.state := by
  unfold State.takeReadiness; repeat' split
  all_goals simp

@[simp] theorem State.judgeSwitches_deviceState (h : Hatch) : (s.judgeSwitches h).device.state = s.device.state := by
  unfold State.judgeSwitches; dsimp only; repeat' split
  all_goals rfl

@[simp] theorem State.takeHatchMove_deviceState (h : Hatch) : (s.takeHatchMove h).device.state = s.device.state := by
  simp [State.takeHatchMove]

@[simp] theorem State.takeReported_deviceState (m : Sensor) : (s.takeReported m).device.state = s.device.state := by
  cases m <;> simp [State.takeReported]

/-! ### The fault table -/

@[simp] theorem State.deriveHatches_faultTable : s.deriveHatches.faults = s.faults := rfl
@[simp] theorem State.deriveConds_faultTable : s.deriveConds.faults = s.faults := rfl
@[simp] theorem State.deriveLamps_faultTable : s.deriveLamps.faults = s.faults := rfl
@[simp] theorem State.deriveReady_faultTable : s.deriveReady.faults = s.faults := rfl
@[simp] theorem State.deriveRequests_faultTable : s.deriveRequests.faults = s.faults := rfl
@[simp] theorem State.deriveChannels_faultTable : s.deriveChannels.faults = s.faults := rfl
@[simp] theorem State.deriveStuck_faultTable : s.deriveStuck.faults = s.faults := rfl

@[simp] theorem State.derive_faultTable : s.derive.faults = s.faults := by
  simp [State.derive]

@[simp] theorem State.stopProfile_faultTable (a : Actuator) : (s.stopProfile a).faults = s.faults := by
  unfold State.stopProfile; split <;> rfl

@[simp] theorem State.stopOverload_faultTable (a : Actuator) : (s.stopOverload a).faults = s.faults := by
  unfold State.stopOverload; split <;> rfl

@[simp] theorem State.startProfile_faultTable : s.startProfile.faults = s.faults := rfl

@[simp] theorem State.testOverload_faultTable : s.testOverload.faults = s.faults := by
  unfold State.testOverload; dsimp only; repeat' split
  all_goals rfl

@[simp] theorem State.releaseGrant_faultTable (a : Actuator) : (s.releaseGrant a).faults = s.faults := by
  unfold State.releaseGrant; split <;> rfl

@[simp] theorem State.leaveCallList_faultTable (a : Actuator) : (s.leaveCallList a).faults = s.faults := by
  unfold State.leaveCallList; split <;> rfl

@[simp] theorem State.endRun_faultTable (c : Ctx) (r : RunResult) : (s.endRun c r).faults = s.faults := rfl

@[simp] theorem State.stepDone_faultTable (c : Ctx) (ok : Bool) : (s.stepDone c ok).faults = s.faults := by
  unfold State.stepDone; dsimp only; repeat' split
  all_goals simp

@[simp] theorem State.judgeReport_faultTable (c : Ctx) (a : Actuator) (o : Ending) :
    (s.judgeReport c a o).faults = s.faults := by
  unfold State.judgeReport; dsimp only; repeat' split
  all_goals simp

@[simp] theorem State.completeRecord_faultTable (a : Actuator) (o : Ending) :
    (s.completeRecord a o).faults = s.faults := by
  simp [State.completeRecord]

@[simp] theorem State.complete_faultTable (a : Actuator) (o : Ending) :
    (s.complete a o).faults = s.faults := by
  unfold State.complete; dsimp only; split <;> simp

@[simp] theorem State.endMotion_faultTable (a : Actuator) (o : Ending) : (s.endMotion a o).faults = s.faults := by
  unfold State.endMotion; dsimp only; repeat' split
  all_goals simp

@[simp] theorem State.endGranted_faultTable (a : Actuator) (o : Ending) : (s.endGranted a o).faults = s.faults := by
  unfold State.endGranted; split <;> simp

@[simp] theorem State.enterPriming_faultTable (a : Actuator) : (s.enterPriming a).faults = s.faults := rfl

@[simp] theorem State.enterHolding_faultTable (a : Actuator) : (s.enterHolding a).faults = s.faults := by
  simp [State.enterHolding]

@[simp] theorem State.runEndTest_faultTable (a : Actuator) : (s.runEndTest a).faults = s.faults := by
  unfold State.runEndTest; dsimp only; repeat' split
  all_goals simp

@[simp] theorem State.enterRunning_faultTable (a : Actuator) : (s.enterRunning a).faults = s.faults := by
  unfold State.enterRunning; dsimp only; repeat' split
  all_goals simp

@[simp] theorem State.primeTestOf_faultTable (a : Actuator) : (s.primeTestOf a).faults = s.faults := by
  unfold State.primeTestOf; dsimp only; split <;> simp

@[simp] theorem State.primeTests_faultTable : s.primeTests.faults = s.faults :=
  foldl_keeps (fun s : State => s.faults) _ (fun s a => s.primeTestOf_faultTable a) _ _

@[simp] theorem State.enterWaiting_faultTable (a : Actuator) (k : Stroke) (t : Option Nat) (g : Option Gate) (w : Starter) :
    (s.enterWaiting a k t g w).faults = s.faults := rfl

@[simp] theorem State.takeMotion_faultTable (a : Actuator) (k : Stroke) (t : Option Nat) (g : Option Gate) (w : Starter) :
    (s.takeMotion a k t g w).2.faults = s.faults := by
  unfold State.takeMotion; dsimp only; repeat' split
  all_goals simp

@[simp] theorem State.postMotion_faultTable (c : Ctx) (m : MotionStep) :
    (s.postMotion c m).2.faults = s.faults := by
  unfold State.postMotion; dsimp only; repeat' split
  all_goals simp

@[simp] theorem State.holderLeaves_faultTable (a : Actuator) (l : Link) (o : Ending) :
    (s.holderLeaves a l o).faults = s.faults := by
  unfold State.holderLeaves; dsimp only; split <;> simp

@[simp] theorem State.watcherLeaves_faultTable (a : Actuator) (l : Link) :
    (s.watcherLeaves a l).faults = s.faults := by
  unfold State.watcherLeaves; dsimp only; split <;> simp

@[simp] theorem State.lapseHolder_faultTable (a : Actuator) (l : Link) : (s.lapseHolder a l).faults = s.faults := by
  unfold State.lapseHolder; split <;> simp

@[simp] theorem State.takeConflict_faultTable (a : Actuator) (l : Link) :
    (s.takeConflict a l).faults = s.faults := by
  simp [State.takeConflict, State.joinHolders]

@[simp] theorem State.contextEnds_faultTable (c : Ctx) (a : Actuator) (o : Ending) :
    (s.contextEnds c a o).faults = s.faults := by
  unfold State.contextEnds; split <;> simp

@[simp] theorem State.stopSlot_faultTable (a : Actuator) : (s.stopSlot a).faults = s.faults := by
  unfold State.stopSlot; dsimp only; split <;> simp

@[simp] theorem State.updateRunning_faultTable : s.updateRunning.faults = s.faults := by
  unfold State.updateRunning State.setDuty; dsimp only; split
  · simp
  · rfl

@[simp] theorem State.updateSettling_faultTable : s.updateSettling.faults = s.faults := by
  unfold State.updateSettling State.setDuty; dsimp only; split
  · simp
  · rfl

@[simp] theorem State.grantSlot_faultTable (a : Actuator) : (s.grantSlot a).faults = s.faults := rfl

@[simp] theorem State.takeRound_faultTable : s.takeRound.faults = s.faults := by
  unfold State.takeRound
  split
  · exact foldl_keeps (fun s : State => s.faults) _ (fun s a => s.grantSlot_faultTable a) _ _
  · rfl

@[simp] theorem State.takeAnswer_faultTable (c : Ctx) (r : Result) : (s.takeAnswer c r).faults = s.faults := by
  cases r <;> simp [State.takeAnswer]

@[simp] theorem State.tryStep_faultTable (c : Ctx) : (s.tryStep c).faults = s.faults := by
  unfold State.tryStep; dsimp only; repeat' split
  all_goals simp

@[simp] theorem State.startStep_faultTable (c : Ctx) (i : Fin 32) : (s.startStep c i).faults = s.faults := by
  unfold State.startStep; dsimp only; repeat' split
  all_goals simp

@[simp] theorem State.slotFree_faultTable (c : Ctx) (a : Actuator) : (s.slotFree c a).faults = s.faults := by
  unfold State.slotFree; split <;> simp

@[simp] theorem State.takeSlotFree_faultTable (a : Actuator) : (s.takeSlotFree a).faults = s.faults := by
  simp [State.takeSlotFree]

@[simp] theorem State.contextCondition_faultTable (c : Ctx) (n : Cond) :
    (s.contextCondition c n).faults = s.faults := by
  unfold State.contextCondition; dsimp only; repeat' split
  all_goals simp

@[simp] theorem State.stopContext_faultTable (c : Ctx) : (s.stopContext c).faults = s.faults := by
  unfold State.stopContext; split <;> simp

@[simp] theorem State.endMotionOf_faultTable (c : Ctx) (inHand : Option Actuator) (o : Ending) :
    (s.endMotionOf c inHand o).faults = s.faults := by
  unfold State.endMotionOf; split <;> simp

@[simp] theorem State.stepTimeout_faultTable (c : Ctx) : (s.stepTimeout c).faults = s.faults := by
  unfold State.stepTimeout; split <;> simp

@[simp] theorem State.lapseRun_faultTable (c : Ctx) : (s.lapseRun c).faults = s.faults := by
  simp [State.lapseRun]

@[simp] theorem State.resumeRun_faultTable (c : Ctx) : (s.resumeRun c).faults = s.faults := by
  simp [State.resumeRun]

@[simp] theorem State.cancelRun_faultTable (c : Ctx) : (s.cancelRun c).faults = s.faults := by
  simp [State.cancelRun]

@[simp] theorem State.startRun_faultTable (c : Ctx) (n : Fin 8) (l : Link) (i : Fin 32) :
    (s.startRun c n l i).faults = s.faults := rfl

theorem State.setArbiter_faultTable (r : Arbiter) : ({ s with arbiter := r } : State).faults = s.faults := rfl

@[simp] theorem State.setFlag_faultTable (b : Bool) :
    ({ s with device := { s.device with estopFlag := b } } : State).faults = s.faults := rfl

@[simp] theorem State.enterStopped_faultTable : s.enterStopped.faults = s.faults := by
  unfold State.enterStopped; dsimp only
  rw [State.setArbiter_faultTable, foldl_keeps (fun s : State => s.faults) _ (fun s a => s.stopSlot_faultTable a)]
  simp

@[simp] theorem State.movementRule_faultTable : s.movementRule.faults = s.faults := by
  unfold State.movementRule; split <;> simp

@[simp] theorem State.estopChanged_faultTable : s.estopChanged.faults = s.faults := by
  unfold State.estopChanged; dsimp only; repeat' split
  all_goals simp

@[simp] theorem State.pumpRunLost_faultTable : s.pumpRunLost.faults = s.faults := by
  unfold State.pumpRunLost; repeat' split
  all_goals simp

@[simp] theorem State.failPriming_faultTable (a : Actuator) : (s.failPriming a).faults = s.faults := by
  simp [State.failPriming]

@[simp] theorem State.passedPriming_faultTable (a : Actuator) : (s.passedPriming a).faults = s.faults := by
  unfold State.passedPriming; split <;> simp

@[simp] theorem State.endStuck_faultTable : s.endStuck.faults = s.faults := by
  unfold State.endStuck; split <;> rfl

@[simp] theorem State.pumprunChanged_faultTable : s.pumprunChanged.faults = s.faults := by
  unfold State.pumprunChanged
  split
  · rfl
  · rw [State.endStuck_faultTable,
      foldl_keeps (fun s : State => s.faults) _ (fun s a => s.passedPriming_faultTable a),
      State.pumpRunLost_faultTable]

@[simp] theorem State.inputChanged_faultTable (i : Input) : (s.inputChanged i).faults = s.faults := by
  unfold State.inputChanged; split <;> simp

@[simp] theorem State.loseCondition_faultTable (c : Cond) (a : Actuator) :
    (State.loseCondition c s a).faults = s.faults := by
  unfold State.loseCondition; dsimp only; repeat' split
  all_goals simp

@[simp] theorem State.regainGate_faultTable (a : Actuator) : (s.regainGate a).faults = s.faults := by
  unfold State.regainGate; dsimp only; split <;> simp

@[simp] theorem State.slotsTakeCondition_faultTable (c : Cond) (v : Bool) :
    (s.slotsTakeCondition c v).faults = s.faults := by
  unfold State.slotsTakeCondition
  split
  · split
    · exact foldl_keeps (fun s : State => s.faults) _ (fun s a => s.regainGate_faultTable a) _ _
    · rfl
  · exact foldl_keeps (fun s : State => s.faults) _ (fun s a => s.loseCondition_faultTable c a) _ _

@[simp] theorem State.takeCondition_faultTable (c : Cond) (v : Bool) :
    (s.takeCondition c v).faults = s.faults := by
  unfold State.takeCondition State.contextsTakeCondition; dsimp only; split <;> simp

@[simp] theorem State.takeReadiness_faultTable (a : Actuator) (k : Stroke) (c : Option Cause) :
    (s.takeReadiness a k c).faults = s.faults := by
  unfold State.takeReadiness; repeat' split
  all_goals simp

@[simp] theorem State.judgeSwitches_faultTable (h : Hatch) : (s.judgeSwitches h).faults = s.faults := by
  unfold State.judgeSwitches; dsimp only; repeat' split
  all_goals rfl

@[simp] theorem State.takeHatchMove_faultTable (h : Hatch) : (s.takeHatchMove h).faults = s.faults := by
  simp [State.takeHatchMove]

@[simp] theorem State.takeReported_faultTable (m : Sensor) : (s.takeReported m).faults = s.faults := by
  cases m <;> simp [State.takeReported]

end Sys2Proof.Machine
end

