-- ==== Sys2Proof/Laws/Slots.lean ====
section
/-! SUPPORT. What the operations on slots, contexts and grants do to every slot and context, and what keeps the agreement of the
slots with the arbiter. -/

namespace Sys2Proof.Machine

variable {s : State} {a : Actuator}

/-! ### One slot -/

theorem State.slot_setSlot_ite (a b : Actuator) (r : Slot) : (s.setSlot a r).slot b = if a = b then r else s.slot b := by
  simp [State.slot, State.setSlot, Table.get_set]

/-- Judging a report changes the contexts, and hands step starts on, and nothing else. -/
theorem State.judgeReport_rest (c : Ctx) (o : Ending) :
    s.judgeReport c a o
      = { s with contexts := (s.judgeReport c a o).contexts, agenda := (s.judgeReport c a o).agenda } := by
  unfold State.judgeReport State.stepDone; dsimp only
  repeat' split
  all_goals rfl

@[simp] theorem State.slot_judgeReport (c : Ctx) (o : Ending) (b : Actuator) : (s.judgeReport c a o).slot b = s.slot b := by
  rw [State.judgeReport_rest]; rfl

/-- What judging a report hands on comes behind what has been handed on. -/
theorem State.agenda_judgeReport (c : Ctx) (o : Ending) : ∃ xs, (s.judgeReport c a o).agenda = s.agenda ++ xs := by
  unfold State.judgeReport State.stepDone; dsimp only
  repeat' split
  all_goals first
    | exact ⟨[], (List.append_nil _).symm⟩
    | exact ⟨_, rfl⟩

/-- A completed end is its record, and then the judging of the report by the context to be told (R21, R105): nothing but the
contexts and what is handed on differs between the two. -/
theorem State.complete_rest (o : Ending) :
    s.complete a o = { s.completeRecord a o with
      contexts := (s.complete a o).contexts, agenda := (s.complete a o).agenda } := by
  unfold State.complete; dsimp only; split
  · exact State.judgeReport_rest ..
  · rfl

theorem State.slot_completeRecord (a b : Actuator) (o : Ending) :
    (s.completeRecord a o).slot b = if a = b then (s.slot a).ended o else s.slot b := by
  rw [← State.slot_setSlot_ite]
  unfold State.completeRecord State.releaseGrant State.leaveCallList State.stopProfile
  dsimp only
  repeat' split
  all_goals rfl

/-- A completed end changes the slot that ended and no other. -/
theorem State.slot_complete (a b : Actuator) (o : Ending) :
    (s.complete a o).slot b = if a = b then (s.slot a).ended o else s.slot b := by
  rw [State.complete_rest]; exact State.slot_completeRecord a b o

/-- A slot whose end has completed is IDLE or BLOCKED, and sound. -/
theorem Slot.ended_sound (r : Slot) (o : Ending) :
    (r.ended o).Sound ∧ ((r.ended o).state = .idle ∨ (r.ended o).state = .blocked) := by
  have he : LinkTimers.isEmpty LinkTimers.none = true := by decide
  unfold Slot.ended Slot.Sound
  cases hb : r.endsBlocked o
  · simp [resetSlot, he]
  · have : r.watchers.isEmpty = false := by
      unfold Slot.endsBlocked at hb
      simp at hb; exact hb.2
    simp [resetSlot, he, this]

/-- A completed end hands on a round for the call and one for the grant that it gives up, and then a slot that is
free (R21, R28, R104). -/
theorem State.agenda_completeRecord (o : Ending) :
    (s.completeRecord a o).agenda = s.agenda ++ (if a ∈ s.arbiter.callList then [.round] else [])
      ++ (if s.grant a.circuit = some a then [.round] else [])
      ++ (if (s.slot a).endsBlocked o then [] else [.slotFree a]) := by
  have h1 : ∀ u : State, (u.leaveCallList a).agenda = u.agenda ++ (if a ∈ u.arbiter.callList then [.round] else []) := by
    intro u; unfold State.leaveCallList; split <;> simp [State.push]
  have h2 : ∀ u : State, (u.releaseGrant a).agenda = u.agenda ++ (if u.grant a.circuit = some a then [.round] else []) := by
    intro u; unfold State.releaseGrant; split <;> simp [State.push, State.setGrant]
  have h3 : ∀ u : State, (u.leaveCallList a).grant a.circuit = u.grant a.circuit := by
    intro u; unfold State.leaveCallList; split <;> rfl
  have h4 : ∀ u : State, ((u.stopProfile a).setPrime a .stopped).agenda = u.agenda
      ∧ ((u.stopProfile a).setPrime a .stopped).arbiter.callList = u.arbiter.callList
      ∧ ((u.stopProfile a).setPrime a .stopped).grant a.circuit = u.grant a.circuit := by
    intro u; unfold State.stopProfile; split <;> exact ⟨rfl, rfl, rfl⟩
  unfold State.completeRecord; dsimp only
  simp only [State.pushAll, h2, h1, h3, h4]
  rfl

/-- What STOPPED entry leaves of one slot's record (R23). -/
def Slot.stoppedRecord (r : Slot) : Slot :=
  if r.state = .idle then r
  else if r.state = .blocked then { r with state := .idle, watch := LinkTimers.none }
  else { resetSlot with runTimer := r.runTimer, outcome := if r.state = .settling then r.outcome else .stopped }

/-- STOPPED entry at a slot changes that slot's record and no other. -/
theorem State.slot_stopSlot (a b : Actuator) :
    (s.stopSlot a).slot b = if a = b then (s.slot a).stoppedRecord else s.slot b := by
  have hc : (s.slot a).state ≠ .idle → (s.slot a).state ≠ .blocked →
      (s.complete a .stopped).slot b = if a = b then (s.slot a).stoppedRecord else s.slot b := by
    intro h1 h2
    rw [State.slot_complete]; congr 1
    unfold Slot.stoppedRecord Slot.ended Slot.endsBlocked Slot.finalOutcome
    rw [if_neg h1, if_neg h2]; rfl
  unfold State.stopSlot; dsimp only
  cases hst : (s.slot a).state
  · dsimp only; split
    · next e => subst e; unfold Slot.stoppedRecord; rw [if_pos hst]
    · rfl
  all_goals first
    | exact hc (by rw [hst]; decide) (by rw [hst]; decide)
    | (simp only [State.slot_push, State.slot_setSlot_ite]; unfold Slot.stoppedRecord; rw [hst]; rfl)

/-- STOPPED entry leaves the slot IDLE. -/
theorem State.slot_stopSlot_state (a b : Actuator) :
    ((s.stopSlot a).slot b).state = if a = b then .idle else (s.slot b).state := by
  have hc : ∀ t, t = s.complete a .stopped → (t.slot b).state = if a = b then .idle else (s.slot b).state := by
    rintro _ rfl
    rw [State.slot_complete]; split
    · unfold Slot.ended Slot.endsBlocked; simp
    · rfl
  unfold State.stopSlot; dsimp only
  cases hst : (s.slot a).state
  · dsimp only; split
    · next e => subst e; exact hst
    · rfl
  all_goals first
    | exact hc _ rfl
    | (simp only [State.slot_push, State.slot_setSlot_ite]; split <;> rfl)

/-- STOPPED entry leaves the context IDLE. -/
theorem State.context_stopContext_state (c d : Ctx) :
    ((s.stopContext c).context d).state = if c = d then .idle else (s.context d).state := by
  unfold State.stopContext Context.running
  split
  · unfold State.endRun State.setContext State.context
    simp only [Table.get_set]
    split <;> rfl
  · next hn =>
    split
    · next e => subst e; simpa using hn
    · rfl

/-! ### Rounds -/

/-- The best of a list is in it. -/
theorem bestOf_mem {p : Actuator → Nat} {xs : List Actuator} {a : Actuator} (h : bestOf p xs = some a) : a ∈ xs := by
  induction xs generalizing a with
  | nil => cases h
  | cons x xs ih =>
    unfold bestOf at h
    split at h
    · next b hb =>
      split at h
      · cases h; exact List.mem_cons_of_mem _ (ih hb)
      · cases h; exact List.mem_cons_self
    · cases h; exact List.mem_cons_self

/-- A grant puts its slot in PRIMING with the stroke it has. -/
theorem State.slot_grantSlot_self :
    ((s.grantSlot a).slot a).state = .priming ∧ ((s.grantSlot a).slot a).stroke = (s.slot a).stroke := by
  unfold State.grantSlot State.enterPriming; simp; rfl

/-- A grant leaves every other slot as it is. -/
theorem State.slot_grantSlot_ne (a b : Actuator) (hb : a ≠ b) : (s.grantSlot a).slot b = s.slot b := by
  have := State.slot_setSlot_ite (s := s) a b ((s.grantSlot a).slot a)
  rw [if_neg hb] at this
  rw [← this]
  unfold State.grantSlot State.enterPriming; simp [State.slot_setSlot_ite, hb]; rfl

/-! ### The agreement of slots and arbiter -/

/-- The agreement reads the arbiter's call list, grants and pump owner, which slots wait, which are granted, and the strokes of
the granted ones. -/
theorem State.supplyAgrees_congr {s t : State} (hc : t.arbiter.callList = s.arbiter.callList)
    (hg : t.arbiter.grants = s.arbiter.grants) (hp : t.arbiter.pumpOwner = s.arbiter.pumpOwner)
    (hw : ∀ b, (t.slot b).state = .waiting ↔ (s.slot b).state = .waiting)
    (hs : ∀ b, (t.slot b).state.granted = (s.slot b).state.granted)
    (hk : ∀ b, (t.slot b).state.granted = true → (t.slot b).stroke = (s.slot b).stroke) (h : s.SupplyAgrees) :
    t.SupplyAgrees := by
  obtain ⟨h1, h2, h3, h4, h5⟩ := h
  have hg : ∀ c, t.grant c = s.grant c := fun c => by simp [State.grant, hg]
  refine ⟨by rw [hc]; exact h1, fun b => by rw [hc, hw]; exact h2 b, fun b => by rw [hg, hs]; exact h3 b,
    fun c b => by rw [hg]; exact h4 c b, fun b => ?_⟩
  rw [hp, h5 b, ← hs]
  constructor
  · rintro ⟨h, h'⟩; exact ⟨h, (hk b h).trans h'⟩
  · rintro ⟨h, h'⟩; exact ⟨h, (hk b h).symm.trans h'⟩

end Sys2Proof.Machine
end

