-- ==== Sys2Proof/WellFormed.lean ====
section
/-! DEFINITION. Which commands can come from the part's surroundings: a request's body fits a frame (R170), the two forms
of LAMP and of ACK are told apart as R176 codes them, an unknown request's code is in no row of R176, and the settling of
a digital input names an input that has a debounced level (R44). Whether the characters of FRAME_DISCARDED hold no valid
frame is `Sys2Proof.Machine.Rx.noValidFrame`, beside the receive states. -/

namespace Sys2Proof

/-- The request codes of R176. -/
def requestCodes : List Byte :=
  [0x01, 0x02, 0x03, 0x10, 0x11, 0x12, 0x13, 0x20, 0x21, 0x22, 0x30, 0x31, 0x40, 0x41, 0x42, 0x50, 0x51, 0x52, 0x53, 0x5F]

/-- The body (code, tag and parameters) is at most 60 bytes (R170, R183). -/
def bodyFits (params : List Byte) : Bool := params.length ≤ 58

/-- The command can arrive as it is written. -/
def Instr.wellFormed : Instr → Bool
  | .status _ _ ps | .faults _ _ ps | .resetCause _ _ ps | .hold _ _ ps | .release _ _ ps | .move _ _ ps
  | .cancel _ _ ps | .seqStart _ _ ps | .seqHold _ _ ps | .seqCancel _ _ ps | .output _ _ ps | .stopAll _ _ ps
  | .resume _ _ ps | .configEnter _ _ ps | .configWrite _ _ ps | .configRead _ _ ps | .configCommit _ _ ps
  | .restart _ _ ps => bodyFits ps
  | .lampSet _ _ ps => bodyFits ps && decide (ps[1]? ≠ some 0)
  | .lampClear _ _ ps => bodyFits ps && decide (ps[1]? = some 0)
  | .ack _ _ ps => bodyFits ps && decide (ps ≠ [0x00, 0xFF])
  | .ackAll _ _ => true
  | .unknownRequest _ code _ ps => bodyFits ps && !requestCodes.contains code
  | .debounceSettle i => decide (i ≠ .speed)
  | .frameDiscarded _ _ | .framingError _ | .gapTimerExpiry _ | .replySent _ | .replyDropped _ | .powerOnReset
  | .pinReset | .holderLapse _ _ | .watchLapse _ _ | .runLimitExpiry _ | .holdTimerExpiry _ | .runDownEnd _
  | .profileUpdate | .overloadExpiry | .primeLimit _ | .stuckWatchExpiry | .pinLevelChange _ _ | .speedEdge
  | .quietTimerExpiry | .captureRisingEdge _ | .captureFallingEdge _ | .lostExpiry _ | .startupEnd
  | .batterySample _ | .clockComparison _ | .ownerLapse | .dormancyTimerExpiry | .wakeStartBit _ | .wakeIgn
  | .wakeLine | .wakeDriveEnd | .phaseTimerExpiry _ | .trailTimerExpiry _ | .leadReached _ | .lampProveTest _ _
  | .openLoadTest _ _ | .shortTrip _ _ | .pwmPeriodStart _ | .stepTimerExpiry _ | .sequenceLapse _
  | .pauseTimerExpiry _ | .replyStart _ | .resetbRelease => true

end Sys2Proof
end

