-- ==== Sys2Proof/Tests/Slice0.lean ====
section
/-! SUPPORT. Tests of the model against the spec's worked cases, the smoke tests of WellFormed, and one witness for the
hypotheses of each statement: a concrete state and operands that meet them. -/

namespace Sys2Proof.Tests

set_option Elab.async false

open Machine

/-! ### Helpers -/

/-- The state after a command. -/
def after (c : Instr) (s : State) : State :=
  match exec c s with
  | .next t => t
  | .fault _ | .refused _ => s

/-- The state after commands. -/
def afterAll (cs : List Instr) (s : State) : State := cs.foldl (fun s c => after c s) s

/-- The result of the reply that waits on a link. -/
def reply (l : Link) (s : State) : Option Result := (s.link l).waiting.map (·.result)

/-- The data of the reply that waits on a link. -/
def replyData (l : Link) (s : State) : Option (List Byte) := (s.link l).waiting.map (·.data)

/-- A map that carries every function but LAMP2, LAMP3 and AUX1. -/
def testMap : Table (Option Func) 12 :=
  ⟨[some .lower, some .pump, some .tiltv, some .khatchv, some .ohatchv, some .divert, some .lamp0, some .lamp1, none, none,
    some .aux0, none], rfl⟩

/-- An input that has settled at its pin's level. -/
def settledAt (level : Bool) : InputRec := ⟨if level then .high else .low, level, some level, none⟩

/-- Parked, ignition off, ESTOP released, both hatches shut, nothing else asserted. -/
def restingInputs : Table InputRec 13 := Table.ofFn fun i =>
  settledAt (match Input.ofIx i with
    | .park | .estop | .kshut | .oshut | .speed => false
    | _ => true)

/-- A valid channel with a steady value. -/
def steady (v : Nat) : Capture := ⟨none, [v, v, v, v], 0, true, v, some 0, false, false⟩

/-- A READY part at rest: the platform at 300 mm and 30.0 degrees under 85 bar, 24 V, the vehicle standing. -/
def ready : State :=
  { ({ State.reset with
      tables := { defaultTables with outputMap := testMap }
      inputs := restingInputs
      permit := { resetPermit with standstill := true }
      captures := ⟨[steady 300, steady 300, steady 85], rfl⟩
      supply := ⟨List.replicate 8 24000, .normal, true, some 0, some 0⟩
      device := { resetDevice with state := .ready, configured := true, startup := none, dormancy := some 0 } }).derive with
    agenda := [] }

/-- `ready` in another device state. -/
def inState (d : DeviceState) : State := ready.setDeviceState d

/-- `ready` in CONFIG, with link 0 as its owner. -/
def configuring : State := { ready with device := { ready.device with
  state := .config, configured := false, owner := some 0, ownerIdle := some 0 } }

/-- `ready` with another record in the slot of an actuator. -/
def withSlot (a : Actuator) (f : Slot → Slot) : State := ready.setSlot a (f (ready.slot a))

/-- A slot with a motion that a link holds, its refresh timer at 200 ms. -/
def heldBy (l : Link) (st : SlotState) (k : Stroke) (r : Slot) : Slot :=
  { r with state := st, stroke := some k, target := some 0, holders := LinkTimers.none.set l (some 200000) }

/-- A slot with a run-to-target motion. -/
def ownedBy (o : Owner) (st : SlotState) (k : Stroke) (r : Slot) : Slot :=
  { r with state := st, stroke := some k, target := some 0, owner := some o }

/-- A slot without a motion that watches a link. -/
def watching (l : Link) (st : SlotState) (r : Slot) : Slot :=
  { r with state := st, watch := LinkTimers.none.set l (some 200000) }

/-- Link 2 opens the kerbside hatch: its slot is granted and primes. -/
def primingHatch : State := after (.hold 2 7 [2, 0]) ready

/-- The hatch slot has a lit and proven lamp and the pump contact, and runs. -/
def runningHatch : State :=
  afterAll [.lampProveTest 1 1600, .leadReached 1]
    ({ primingHatch with
      lamps := primingHatch.lamps.map fun r => { r with
        lead := r.lead.map fun _ => 500000
        prove := r.prove.map fun _ => 50000 }
      inputs := primingHatch.inputs.set 12 (settledAt false) })

/-- What holds for each actuator holds for all. -/
theorem everyActuator {p : Actuator → Prop} (h0 : p .lift) (h1 : p .tilt) (h2 : p .khatch) (h3 : p .ohatch) :
    ∀ a, p a := by
  intro a; cases a <;> assumption

/-! ### WellFormed: each check refuses an ill-formed term -/

theorem test_wellFormed_bodyTooLong : (Instr.status 0 0 (List.replicate 59 0)).wellFormed = false
    ∧ (Instr.status 0 0 (List.replicate 58 0)).wellFormed = true := by decide +kernel
theorem test_wellFormed_lampSetClears : (Instr.lampSet 0 0 [0, 0, 0, 0, 0, 0]).wellFormed = false := by decide +kernel
theorem test_wellFormed_lampClearSets : (Instr.lampClear 0 0 [0, 1, 0, 0, 0, 0]).wellFormed = false := by decide +kernel
theorem test_wellFormed_ackIsAckAll : (Instr.ack 0 0 [0x00, 0xFF]).wellFormed = false := by decide +kernel
theorem test_wellFormed_knownCode : (Instr.unknownRequest 0 0x5F 0 []).wellFormed = false
    ∧ (Instr.unknownRequest 0 0x60 0 []).wellFormed = true := by decide +kernel
theorem test_wellFormed_speedHasNoDebounce : (Instr.debounceSettle .speed).wellFormed = false := by decide +kernel
theorem test_noValidFrame : Rx.noValidFrame .hunt [0xA5, 0x02, 0x01, 0x00, 0xC3] = false
    ∧ Rx.noValidFrame .hunt [0xA5, 0x02, 0x01, 0x00, 0xC2] = true := by decide +kernel

/-! ### Links (R171, R183, 11.9) -/

/-- The STATUS frame R171 works out. -/
theorem test_statusFrame : requestFrame 0x01 0x00 [] = [0xA5, 0x02, 0x01, 0x00, 0xC3] := by decide +kernel

/-- 11.9 at 30 ms: STATUS is served in STARTUP, with zone 2 (LOW), and its record is 53 bytes long. -/
theorem test_status_inStartup : let s := after (.status 0 0x00 []) State.reset
    reply 0 s = some .accepted ∧ (replyData 0 s).map List.length = some 53 := by decide +kernel

/-- 11.9 at 36 ms: LINK0's set is emptied, LINK2's is not. -/
theorem test_resetCause : let s := after (.resetCause 0 0 []) State.reset
    replyData 0 s = some [0x01] ∧ (s.link 0).causes = noCauses ∧ (s.link 2).causes = powerOnCauses := by decide +kernel

/-- 11.9 at 42 and 110 ms: REFUSED_STATE in STARTUP, REFUSED_ROLE from the kerbside pendant. -/
theorem test_configEnter_refused : reply 0 (after (.configEnter 0 0 []) State.reset) = some .refusedState
    ∧ reply 2 (after (.configEnter 2 0 []) (inState .unconfigured)) = some .refusedRole := by decide +kernel

/-- 11.9 at 250 ms: a motion pattern of 4 / 40 is stored as 6 / 40. -/
theorem test_configWrite_clampsThePattern :
    let s := after (.configWrite 0 1 [6, 2, 3, 0, 4, 40, 0, 0, 50, 50, 0x0B, 0xB8]) configuring
    reply 0 s = some .clamped ∧ (s.tables.lamps.get 2).motion = ⟨6, 40⟩ := by decide +kernel

/-- 11.9 at 280 ms: a lead time of 2500 is stored as 2000. -/
theorem test_configWrite_clampsTheLead :
    let s := after (.configWrite 0 1 [9, 0, 20, 0x09, 0xC4, 0, 0, 0x03, 0xE8, 10]) configuring
    reply 0 s = some .clamped ∧ s.tables.timing = ⟨20, 2000, 0, 1000, 10⟩ := by decide +kernel

/-- 11.9 at 310 ms: LAMP0 on two channels fails check 1 at the higher one. -/
theorem test_configCommit_duplicate :
    let s := after (.configCommit 0 3 []) { configuring with
      tables := { configuring.tables with outputMap := configuring.tables.outputMap.set 10 (some .lamp0) } }
    reply 0 s = some .configInvalid ∧ replyData 0 s = some [1, 10] ∧ s.device.state = .config := by decide +kernel

/-- 11.9 at 320 ms: the entry is read back. -/
theorem test_configRead : replyData 0 (after (.configRead 0 1 [1, 6]) configuring) = some [6] := by decide +kernel

/-! ### Motions (1.4 to 1.9, 2.6, 5.6, 8.9) -/

/-- 3.8 at 0 ms: the HOLD of the kerbside pendant is granted at once with the pump, and its lamp lights. -/
theorem test_hold_starts : let s := primingHatch
    reply 2 s = some .accepted ∧ (s.slot .khatch).state = .priming ∧ s.arbiter.pumpOwner = some .khatch
      ∧ (s.chan 1).drive = .on ∧ (s.lamp 1).lit = true := by decide +kernel

/-- R36, R37, R34: the lead, the proof and PUMPRUN together let the slot run with PUMP, DIVERT and KHATCHV. -/
theorem test_leadReached_runs : let s := runningHatch
    (s.slot .khatch).state = .running ∧ (s.chan 1).drive = .on ∧ (s.chan 3).drive = .on ∧ (s.chan 5).drive = .on := by
  decide +kernel

/-- R6: the opposite stroke ends the motion with CONFLICT, at once. -/
theorem test_hold_conflicts : let s := after (.hold 2 8 [2, 1]) runningHatch
    reply 2 s = some .conflict ∧ (s.slot .khatch).state = .blocked ∧ (s.slot .khatch).outcome = .conflict
      ∧ s.arbiter.pumpOwner = none ∧ (s.chan 1).drive = .off := by decide +kernel

/-- R9, R20: the last holder's RELEASE settles, the pump off and the valve still on. -/
theorem test_release_settles : let s := after (.release 2 8 [2]) runningHatch
    (s.slot .khatch).state = .settling ∧ (s.slot .khatch).outcome = .released ∧ (s.chan 1).drive = .off
      ∧ (s.chan 3).drive = .on := by decide +kernel

/-- R7, R8: a holder that is not heard for 200 ms lapses. -/
theorem test_holderLapse : let s := after (.holderLapse .khatch 2) (runningHatch.setSlot .khatch
      { runningHatch.slot .khatch with holders := LinkTimers.none.set 2 (some 200000) });
    (s.slot .khatch).state = .settling ∧ (s.slot .khatch).outcome = .lapsed := by decide +kernel

/-- R4, R10: a MOVE is owned by its link; the default policy lists no RUN for LIFT. -/
theorem test_move : let s := after (.move 0 9 [3, 0]) ready
    reply 0 s = some .accepted ∧ (s.slot .ohatch).owner = some (.link 0)
      ∧ reply 0 (after (.move 0 9 [0, 0]) ready) = some .badParam := by decide +kernel

/-- R11: a CANCEL ends a link's motion; a holder's is NOT_OWNER. -/
theorem test_cancel : let s := after (.cancel 0 9 [3]) (after (.move 0 9 [3, 0]) ready)
    (s.slot .ohatch).outcome = .cancelled ∧ reply 0 (after (.cancel 0 9 [2]) runningHatch) = some .notOwner := by
  decide +kernel

/-- R22: a watching link that is not heard frees a BLOCKED slot. -/
theorem test_watchLapse :
    ((after (.watchLapse .khatch 2) (withSlot .khatch (watching 2 .blocked))).slot .khatch).state = .idle := by
  decide +kernel

/-- R13: 20 s of KHATCH powered end with TIMEOUT and one RUN_TIMEOUT entry. -/
theorem test_runLimitExpiry : let s := after (.runLimitExpiry .khatch) (runningHatch.setSlot .khatch
      { runningHatch.slot .khatch with runTimer := 20000000 });
    (s.slot .khatch).outcome = .timeout ∧ s.faults.entries = [⟨.runTimeout, .actuator .khatch, false, false, 1⟩] := by
  decide +kernel

/-- R15: 5 s of HOLDING end with GATE_TIMEOUT. -/
theorem test_holdTimerExpiry : ((after (.holdTimerExpiry .tilt) (withSlot .tilt fun r =>
    { heldBy 1 .holding .powered r with holdTimer := some 5000000 })).slot .tilt).outcome = .gateTimeout := by
  decide +kernel

/-- R20, R21: the end completes 100 ms after PUMP went off. -/
theorem test_runDownEnd : let s := after (.runDownEnd .khatch) (let t := after (.release 2 8 [2]) runningHatch
      t.setSlot .khatch { t.slot .khatch with runDown := some 100000 })
    (s.slot .khatch).state = .idle ∧ (s.slot .khatch).outcome = .released ∧ s.grant .hatchCircuit = none := by
  decide +kernel

/-- A lowering stroke in RUNNING at a duty, with a height, a pressure and a battery (5.7). -/
def lowering (height target pressure battery u : Nat) : State :=
  { (withSlot .lift fun r => { heldBy 1 .running .ret r with u := u, target := some target }) with
    captures := ⟨[steady height, steady 300, steady pressure], rfl⟩
    supply := ⟨List.replicate 8 battery, .normal, true, some 0, some 0⟩
    profile := ⟨0, some 10000, none⟩ }

/-- The duty u and the coil duty after one update. -/
def updated (s : State) : Nat × Nat :=
  let t := after .profileUpdate s
  ((t.slot .lift).u, t.profile.uOut)

/-- 5.6, updates 3 and 12. -/
theorem test_profileUpdate_cruise : updated (lowering 1000 0 85 26400 330) = (370, 336)
    ∧ updated (lowering 900 0 85 26400 690) = (720, 654) := by decide +kernel

/-- 5.7, cases A to E. -/
theorem test_profileUpdate_limits : updated (lowering 40 0 85 26400 520) = (490, 445)
    ∧ updated (lowering 300 0 240 24000 450) = (450, 450) ∧ updated (lowering 10 0 240 24000 250) = (250, 250)
    ∧ updated (lowering 600 0 6 20000 900) = (900, 1000) ∧ updated (lowering 212 200 6 26400 860) = (830, 754) := by
  decide +kernel

/-- R95: 500 ms above the threshold end the raise. -/
theorem test_overloadExpiry : let s := after .overloadExpiry {
      withSlot .lift (heldBy 1 .running .powered) with profile := ⟨0, none, some 500000⟩ };
    (s.slot .lift).state = .settling ∧ (s.slot .lift).outcome = .overload
      ∧ s.faults.entries = [⟨.overload, .actuator .lift, false, false, 1⟩] := by decide +kernel

/-- R38 (2.7): no PUMPRUN at 1000 ms. -/
theorem test_primeLimit : let s := after (.primeLimit .khatch) (primingHatch.setPrime .khatch (.running 1000000))
    (s.slot .khatch).state = .blocked ∧ (s.slot .khatch).outcome = .pumpFault
      ∧ s.faults.entries = [⟨.pumpNoRun, .none, false, false, 1⟩] := by decide +kernel

/-- R41: the contact that stays closed 500 ms is PUMP_STUCK. -/
theorem test_stuckWatchExpiry : (after .stuckWatchExpiry { ready with stuck := ⟨some 500000, false⟩ }).faults.entries
    = [⟨.pumpStuck, .none, true, false, 1⟩] := by decide +kernel

/-! ### Inputs and sensors (3.7, 3.8, 4.7, 4.8) -/

/-- R44: a pin that closes starts its stability timer and changes nothing else yet. -/
theorem test_pinLevelChange : let s := after (.pinLevelChange (.input .kopen) .low) ready
    (s.input .kopen).timer = some 0 ∧ (s.input .kopen).debounced = some true ∧ (s.input .kopen).level = false := by
  decide +kernel

/-- 3.8 at 3020 ms: the position becomes UNKNOWN, the entry is ACTIVE, and the slot ends with INTERLOCK. -/
theorem test_debounceSettle : let s := after (.debounceSettle .kopen) (runningHatch.setInput .kopen
      ⟨.low, false, some true, some 20000⟩);
    s.hatchPos .kerbside = .unknown ∧ s.faults.entries = [⟨.hatchSwitch, .actuator .khatch, true, false, 1⟩]
      ∧ (s.slot .khatch).state = .blocked ∧ (s.slot .khatch).outcome = .interlock
      ∧ s.ready .khatch .ret = false := by decide +kernel

/-- `s` with the kerbside hatch SHUT and both its end switches at the end of the 20 ms that give OPEN. -/
def swinging (s : State) : State :=
  { ((s.setInput .kshut ⟨.high, true, some false, some 20000⟩).setInput .kopen ⟨.low, false, some true, some 20000⟩) with
    permit := { s.permit with hatch := s.permit.hatch.set Hatch.kerbside.ix .shut } }

/-- R92: both switches change within one debounce; whichever event comes, the position passes from SHUT directly to OPEN, the
powered stroke ends with REACHED, and no HATCH_SWITCH is posted; the other event then changes nothing. -/
theorem test_debounceSettle_together : ∀ i ∈ [Input.kshut, .kopen],
    let s := after (.debounceSettle i) (swinging runningHatch)
    s.hatchPos .kerbside = .opened ∧ (s.slot .khatch).state = .settling ∧ (s.slot .khatch).outcome = .reached
      ∧ s.faults.entries = [] ∧ after (.debounceSettle .kshut) s = s ∧ after (.debounceSettle .kopen) s = s := by
  decide +kernel

/-- `ready` with the platform stowed, the vehicle rolling, and the kerbside hatch shut or not. -/
def rolling (shut : Bool) : State :=
  { (ready.setInput .stow (settledAt false)).setInput .kshut (settledAt (!shut)) with
    permit := { ready.permit with
      standstill := false
      hatch := ⟨[if shut then .shut else .between, .shut], rfl⟩
      conds := (ready.permit.conds.set Cond.standstill.ix false).set Cond.stowed.ix true } }

/-- R148: with STANDSTILL false a hatch that leaves SHUT stops the part, and one that goes from BETWEEN to OPEN does not. -/
theorem test_debounceSettle_movement :
    (after (.debounceSettle .kshut) ((rolling true).setInput .kshut ⟨.high, true, some false, some 20000⟩)).device.state
        = .stopped
      ∧ (after (.debounceSettle .kopen) ((rolling false).setInput .kopen ⟨.low, false, some true, some 20000⟩)).device.state
        = .ready := by decide +kernel

/-- A SPEED pin that has just risen for 1 ms, `ago` after the edge before. -/
def risen (ago : Nat) : State :=
  { ready.setInput .speed ⟨.high, true, some false, some 1000⟩ with
    permit := { ready.permit with lastRise := some ago, quiet := some 0 } }

/-- 3.7 at 400 and 610 ms: edges 400 ms apart keep STANDSTILL, edges 210 ms apart end it. -/
theorem test_speedEdge : (after .speedEdge (risen 250000)).permit.standstill = true
    ∧ (after .speedEdge (risen 210000)).permit.standstill = false := by decide +kernel

/-- 3.7 at 2700 ms. -/
theorem test_quietTimerExpiry : let s := after .quietTimerExpiry {
      risen 210000 with permit := { ready.permit with
        standstill := false, lastRise := some 250000, quiet := some 2000000 } };
    s.permit.standstill = true ∧ s.permit.lastRise = none := by decide +kernel

/-- A channel with an open period that the next rising edge closes after P µs with high time H. -/
def withPeriod (m : Sensor) (p h : BitVec 16) (r : Capture) : State :=
  { ready.setCapture m { r with openPeriod := some ⟨0xFF00, some (0xFF00 + h)⟩ } with counter := 0xFF00 + p }

/-- 4.7, captures 4 and 5, across a wrap of the counter: 673 makes the channel VALID at 676, 975 permille is bad. -/
theorem test_captureRisingEdge :
    let s := after (.captureRisingEdge .height)
      (withPeriod .height 4000 2196 ⟨none, [681, 678, 675], 0, false, 678, some 9, false, false⟩);
    let t := after (.captureRisingEdge .height) (withPeriod .height 4000 3900 (s.capture .height))
    (s.capture .height).reported = 676 ∧ (s.capture .height).valid = true
      ∧ (s.capture .height).window = [681, 678, 675, 673]
      ∧ (t.capture .height).bad = 1 ∧ (t.capture .height).reported = 676 ∧ (t.capture .height).valid = true := by
  decide +kernel

/-- 4.2: the tables of duties, positions and pressures. -/
theorem test_captureValues : [50, 100, 101, 500, 550, 899, 900].map (fun d => dutyCapture 1200 1000 (some d))
      = [some 0, some 0, some 1, some 600, some 675, some 1198, some 1200]
    ∧ [101, 500, 550, 899, 900].map (fun d => dutyCapture 1050 1000 (some d))
      = [some 1, some 525, some 590, some 1048, some 1050]
    ∧ dutyCapture 1200 1000 (some 49) = none ∧ dutyCapture 1200 1000 (some 951) = none
    ∧ [1101, 1100, 1000, 540, 500, 250, 200, 190, 189].map pressureCapture
      = [none, some 0, some 0, some 85, some 100, some 300, some 400, some 400, none] := by decide +kernel

/-- R63: a missed rising edge leaves the first falling edge in place. -/
theorem test_captureFallingEdge :
    ((after (.captureFallingEdge .tilt) (withPeriod .tilt 9 5 (steady 300))).capture .tilt).openPeriod
      = some ⟨0xFF00, some 0xFF05⟩ := by decide +kernel

/-- R72: 40 ms without an edge lose the sensor. -/
theorem test_lostExpiry : let s := after (.lostExpiry .height) (ready.setCapture .height { steady 300 with lost := some 40000 })
    (s.capture .height).valid = false ∧ s.cond .heightValid = false
      ∧ s.faults.entries = [⟨.sensorLost, .sensor .height, true, false, 1⟩] ∧ s.ready .lift .ret = false := by
  decide +kernel

/-! ### Device (9.2, 9.5, 9.7, 9.8, 9.10) -/

/-- R158, R159: RESETB low brings the reset values and adds PIN; nothing more comes until it is released. -/
theorem test_pinReset : let s := after .pinReset (configuring.setLink 0 { configuring.link 0 with causes := noCauses })
    s.pins.resetbLow = true ∧ s.device.state = .startup ∧ s.tables = defaultTables
      ∧ (s.link 0).causes = noCauses.set 1 true ∧ after (.stopAll 0 1 []) s = s := by decide +kernel

/-- R174: the straps are latched when the reset ends. -/
theorem test_resetbRelease : let s := afterAll [.pinReset, .pinLevelChange .strap0 .high, .resetbRelease] ready
    (s.link 2).role = .rear ∧ (s.link 3).role = .service ∧ s.pins.resetbLow = false := by decide +kernel

/-- R158: a POWER-ON reset is the only cause its sets hold. -/
theorem test_powerOnReset : let s := after .powerOnReset configuring
    s.device.state = .startup ∧ (s.link 3).causes = powerOnCauses ∧ s.counter = 0 := by decide +kernel

/-- R158: the reset follows RESTART's reply. -/
theorem test_restart : let s := after (.restart 3 1 []) configuring
    reply 3 s = some .accepted ∧ s.device.state = .config
      ∧ (afterAll [.replyStart 3, .replySent 3] s).device.state = .startup
      ∧ (after (.replyDropped 3) s).device.state = .startup := by decide +kernel

/-- R144: at 100 ms a part without a configuration is UNCONFIGURED. -/
theorem test_startupEnd :
    let s := after .startupEnd { State.reset with device := { resetDevice with startup := some 100000 } }
    s.device.state = .unconfigured ∧ s.permit.standstill = true := by decide +kernel

/-- 9.10 at 70 ms: the average of 19,425 mV is LOW, and the raise ends with LOW_SUPPLY. -/
theorem test_batterySample : let s := after (.batterySample 19000) { withSlot .lift (fun r => { heldBy 1 .running .powered r with
      need := ready.requirement .lift .powered none }) with
      supply := ⟨List.replicate 2 22400 ++ List.replicate 6 19000, .sag, true, some 10000, some 0⟩ }
    s.supply.zone = .low ∧ s.cond .supplyUsable = false ∧ s.faults.entries = [⟨.lowSupply, .none, true, false, 1⟩]
      ∧ (s.slot .lift).state = .settling ∧ (s.slot .lift).outcome = .lowSupply := by decide +kernel

/-- 9.10 at 160 and 170 ms: 22,325 mV keeps SAG, 22,800 mV makes NORMAL. -/
theorem test_zones : nextZone .sag 22325 = .sag ∧ nextZone .sag 22800 = .normal ∧ nextZone .low 19475 = .low
    ∧ nextZone .low 20425 = .sag ∧ nextZone .normal 21975 = .sag ∧ nextZone .sag 19425 = .low := by decide +kernel

/-- R147: 30 s of silence end CONFIG. -/
theorem test_ownerLapse : (after .ownerLapse { configuring with device := { configuring.device with
    ownerIdle := some 30000000 } }).device.state = .unconfigured := by decide +kernel

/-- A READY part at its dormancy delay. -/
def dozing : State := { ready with device := { ready.device with dormancy := some 600000000 } }

/-- R155, R156, R157: DORMANT is entered, and the three wakes leave it. -/
theorem test_dormancyTimerExpiry : let s := after .dormancyTimerExpiry dozing
    s.device.state = .dormant ∧ s.device.prior = some .ready ∧ s.supply.sampleTimer = none
      ∧ (after (.wakeStartBit 0) s).device.wakeDrive = some 0 ∧ (after .wakeLine s).device.wakeDrive = none
      ∧ (after .wakeLine s).device.state = .startup := by decide +kernel

/-- R156: 20 ms of IGN wake the part. -/
theorem test_wakeIgn : let s := after .dormancyTimerExpiry dozing
    (after .wakeIgn { s with device := { s.device with ignWatch := some 20000 } }).device.state = .startup := by
  decide +kernel

/-- R148, R149: STOP_ALL stops the motion at once, with the outcome STOPPED. -/
theorem test_stopAll : let s := after (.stopAll 1 1 []) runningHatch
    s.device.state = .stopped ∧ (s.slot .khatch).state = .idle ∧ (s.slot .khatch).outcome = .stopped
      ∧ (s.chan 1).drive = .off ∧ s.grant .hatchCircuit = none := by decide +kernel

/-- R150: RESUME needs ESTOP de-asserted. -/
theorem test_resume : (after (.resume 0 1 []) (inState .stopped)).device.state = .ready
    ∧ reply 0 (after (.resume 0 1 []) ((inState .stopped).setInput .estop (settledAt true))) = some .blocked := by
  decide +kernel

/-! ### Sequences (6.3 to 6.8, 6.10) -/

/-- One held sequence: a WAIT for GATE0 with a limit of 1 s. -/
def waitTables : Tables := { ready.tables with
  steps := ready.tables.steps.set 0 (.wait ⟨CondSet.of fun c => decide (c = .gate0), 10, none, none⟩)
  entries := ready.tables.entries.set 0 ⟨some 0, true⟩ }

/-- The run has started and waits for its conditions. -/
def waiting : State := after (.seqStart 1 1 [0]) { ready with tables := waitTables }

/-- A run in `waiting` with other timers. -/
def waitingAt (step hold : Option Nat) : State :=
  waiting.setContext 0 { waiting.context 0 with stepTimer := step, holdTimer := hold }

/-- R101, R102, R107. -/
theorem test_seqStart : reply 1 waiting = some .accepted ∧ replyData 1 waiting = some [0]
    ∧ (waiting.context 0).state = .active ∧ (waiting.context 0).phase = .conditions ∧ (waiting.context 0).started = 1 := by
  decide +kernel

/-- R106, R107: the time limit fails a WAIT step. -/
theorem test_stepTimerExpiry : ((after (.stepTimerExpiry 0) (waitingAt (some 1000000) (some 0))).context 0).result
    = .stepFailed := by decide +kernel

/-- R111: a held run that is not refreshed pauses, and resumes with SEQ_HOLD from its owner. -/
theorem test_sequenceLapse : let s := after (.sequenceLapse 0) (waitingAt (some 5) (some 200000))
    (s.context 0).state = .paused ∧ reply 0 (after (.seqHold 0 1 [0]) s) = some .notOwner
      ∧ ((after (.seqHold 1 1 [0]) s).context 0).state = .active := by decide +kernel

/-- R111: 10 s of pause end the run. -/
theorem test_pauseTimerExpiry : let s := after (.sequenceLapse 0) (waitingAt (some 5) (some 200000))
    ((after (.pauseTimerExpiry 0) (s.setContext 0 { s.context 0 with pauseTimer := some 10000000 })).context 0).result
      = .lapsed := by decide +kernel

/-- R112: a CAB link may cancel the run of a rear pendant. -/
theorem test_seqCancel : ((after (.seqCancel 0 1 [0]) waiting).context 0).result = .cancelled := by decide +kernel

/-! ### Lamps and drivers (7.2 to 7.6, 8.3 to 8.9) -/

/-- R117, R122: an on-time of 5 becomes 6, with CLAMPED; a pattern of off clears the demand. -/
theorem test_lampSet : let s := after (.lampSet 0 1 [0, 1, 3, 1, 5, 40]) ready
    reply 0 s = some .clamped ∧ (s.lamp 0).manual = some ⟨⟨6, 40⟩, 3, true⟩ ∧ (s.lamp 0).lit = true
      ∧ ((after (.lampSet 0 1 [0, 1, 0, 1, 0, 40]) s).lamp 0).manual = none := by decide +kernel

/-- R122: CLEAR removes the demand and puts the lamp out. -/
theorem test_lampClear : let s := after (.lampClear 0 2 [0, 0]) (after (.lampSet 0 1 [0, 1, 3, 1, 6, 40]) ready)
    (s.lamp 0).lit = false ∧ (s.chan 6).drive = .off := by decide +kernel

/-- R117, R123: the end of the last ON phase of a burst ends the demand. -/
theorem test_phaseTimerExpiry : let s := after (.lampSet 0 1 [0, 1, 1, 1, 6, 40]) ready
    let t := after (.phaseTimerExpiry 0) (s.setLamp 0 { s.lamp 0 with phaseTimer := some 60000 })
    (t.lamp 0).lit = false ∧ (t.lamp 0).manual = none := by decide +kernel

/-- R120: the trail ends motion demand. -/
theorem test_trailTimerExpiry : ((after (.trailTimerExpiry 1)
    (ready.setLamp 1 { ready.lamp 1 with motion := .trail, trailTimer := some 3000000 })).lamp 1).motion = .absent := by
  decide +kernel

/-- R125, R59: below 100 mA the lamp fails, and the strokes it announces are not ready. -/
theorem test_lampProveTest : let s := after (.lampProveTest 1 99) { primingHatch with
      lamps := primingHatch.lamps.map fun r => { r with prove := r.prove.map fun _ => 50000 } }
    (s.lamp 1).proven = .failed ∧ s.ready .ohatch .ret = false ∧ (s.slot .khatch).outcome = .beaconFault := by
  decide +kernel

/-- 8.9 at 50 ms with 0.9 A, and with 99 mA. -/
theorem test_openLoadTest : let s := primingHatch.setChan 1 { primingHatch.chan 1 with prove := some 50000 }
    (after (.openLoadTest 1 900) s).faults.entries = []
      ∧ (after (.openLoadTest 1 99) s).faults.entries = [⟨.driverOpen, .chan 1, false, false, 1⟩] := by decide +kernel

/-- 8.9 at 3000 and 90,000 ms: above 8 A the channel trips, and the acknowledgement releases it. -/
theorem test_shortTrip : let s := after (.shortTrip 3 8001) runningHatch
    (s.chan 3).drive = .tripped ∧ (s.chan 1).drive = .off ∧ (s.slot .khatch).state = .blocked
      ∧ (s.slot .khatch).outcome = .driverFault ∧ s.faults.entries = [⟨.driverShort, .chan 3, false, false, 1⟩]
      ∧ ((after (.ack 0 1 [7, 3]) s).chan 3).drive = .off ∧ (after (.ack 0 1 [7, 3]) s).faults.entries = [] := by
  decide +kernel

/-- R135: a period begins with the duty asked for. -/
theorem test_pwmPeriodStart : ((after (.pwmPeriodStart 0)
    ({ lowering 400 0 85 24000 300 with profile := ⟨300, some 0, none⟩ }.setChan 0
      ⟨.pwm, 250, 300, none, some 5000, false⟩)).chan 0).duty = 300 := by decide +kernel

/-- R140: OUTPUT asks for AUX0 on its channel; AUX1 is not mapped. -/
theorem test_output : ((after (.output 0 1 [10, 1]) ready).chan 10).drive = .on
    ∧ reply 0 (after (.output 0 1 [11, 1]) ready) = some .notConfigured := by decide +kernel

/-! ### Fault table (10.7) -/

/-- The table of 10.7 before the sensor fails. -/
def beforeLoss : State := ready.setEntries [⟨.estop, .none, false, false, 1⟩, ⟨.lowSupply, .none, false, false, 1⟩]

/-- 10.7 at 0, 1 and 4 s. -/
theorem test_occurrences : let s := beforeLoss.takeOccurrence .sensorLost (.sensor .height)
    let t := s.takeConditionEnd .sensorLost (.sensor .height)
    s.faults.entries[2]? = some ⟨.sensorLost, .sensor .height, true, false, 1⟩
      ∧ t.faults.entries[2]? = some ⟨.sensorLost, .sensor .height, false, false, 1⟩
      ∧ (t.takeOccurrence .sensorLost (.sensor .height)).faults.entries[2]?
        = some ⟨.sensorLost, .sensor .height, true, false, 2⟩ := by decide +kernel

/-- 10.7 at 15, 40 and 50 s. -/
theorem test_acknowledgements :
    let s := after (.ack 0 1 [4, 0]) (beforeLoss.takeOccurrence .sensorLost (.sensor .height))
    let t := s.takeConditionEnd .sensorLost (.sensor .height)
    s.faults.entries[2]? = some ⟨.sensorLost, .sensor .height, true, true, 1⟩
      ∧ t.faults.entries = beforeLoss.faults.entries ∧ (after (.ackAll 3 1) { t with agenda := [] }).faults.entries = [] := by
  decide +kernel

/-- R164: ACK ALL removes every CLEARED entry and acknowledges the rest. -/
theorem test_ackAll : (after (.ackAll 0 1) (ready.setEntries [⟨.lampOpen, .lamp 0, false, false, 255⟩,
      ⟨.sensorLost, .sensor .height, true, false, 2⟩, ⟨.sequenceOverrun, .ctx 1, false, false, 3⟩])).faults
    = ⟨[⟨.sensorLost, .sensor .height, true, true, 2⟩], false⟩ := by decide +kernel

/-- R178: the entries from a start index. -/
theorem test_faults : replyData 0 (after (.faults 0 1 [1]) beforeLoss) = some [2, 1, 0x0E, 0xFF, 0, 1] := by
  decide +kernel

/-! ### Lines and steps -/

/-- R170: a partial frame runs the gap timer, which discards it. -/
theorem test_frameDiscarded : let s := after (.frameDiscarded 1 [0xA5, 0x02, 0x01]) ready
    (s.link 1).rx = .body 2 [0x01] ∧ (s.link 1).gap = some 0 ∧ (after (.framingError 1) s).link 1 = ready.link 1
      ∧ (after (.gapTimerExpiry 1) (s.setLink 1 { s.link 1 with gap := some 5000 })).link 1 = ready.link 1 := by
  decide +kernel

/-- R172: an unknown code is answered so, from any role. -/
theorem test_unknownRequest : reply 2 (after (.unknownRequest 2 0x60 1 []) State.reset) = some .unknownRequest := by
  decide +kernel

/-- R154: a count as it should be does not reset the part. -/
theorem test_clockComparison : clockBad Config.nominalCount = false := by simp [clockBad]

/-- R154: a stopped oscillator is caught at the first comparison. -/
theorem test_clockStopped : clockBad 0 = true := by simp [clockBad, Config.nominalCount]

/-- A tick of an idle part counts (log 1). -/
theorem test_tick : (ready.tick).counter = 1 ∧ (ready.tick).pending = [] := by decide +kernel

/-! ### Witnesses of the statements' hypotheses: steps and links -/

theorem witness_EmptyQueueTicks : ready.pending = [] ∧ ready.pins.resetbLow = false := by decide +kernel

/-- A slot in RUNNING below its run limit, at it and not in RUNNING, and a prime timer that runs and one that does not. -/
theorem witness_EmptyQueueTicks_timers : (runningHatch.slot .khatch).state = .running
    ∧ (runningHatch.slot .khatch).stroke = some .powered
    ∧ (runningHatch.slot .khatch).runTimer < 1000000 * (runningHatch.policy .khatch .powered).runLimit
    ∧ (runningHatch.policy .khatch .powered).runLimit = 20
    ∧ ((withSlot .tilt (heldBy 1 .holding .ret)).slot .tilt).state ≠ .running
    ∧ primingHatch.prime .khatch = .running 0 ∧ ready.prime .lift = .stopped := by decide +kernel

/-- A tick at and below a limit, and of a stopped timer (log 1). -/
theorem test_tick_timers : let s := { primingHatch with supply := { primingHatch.supply with
      sampleTimer := some 9999, clockTimer := some 1000 } }
    s.tick.supply.sampleTimer = some 10000 ∧ s.tick.supply.clockTimer = some 1000 ∧ s.tick.prime .khatch = .running 1
      ∧ ((s.tick).slot .khatch).holdTimer = none ∧ ((s.tick).slot .khatch).holders.get 2 = some 1 := by decide +kernel

/-- A tick queues the watch timer that is at its window already, since the link may have been moved there from the holders by an
update before (R90); and a holder's lapse that finds its link moved takes it out of the watch set. -/
theorem test_lapseMovesWithTheLink : let s := withSlot .tilt (watching 1 .settling)
    Instr.watchLapse .tilt 1 ∈ s.tick.pending
      ∧ LinkTimers.isEmpty ((after (.holderLapse .tilt 1) s).slot .tilt).watch = true := by decide +kernel

/-- The part with RESETB low. -/
def held : State := { ready with pins := ⟨false, false, true⟩ }

theorem witness_WhatDoesNotCome : held.pins.resetbLow = true ∧ Instr.stopAll 0 1 [] ≠ .powerOnReset
    ∧ Instr.stopAll 0 1 [] ≠ .resetbRelease ∧ (∀ p d, Instr.stopAll 0 1 [] ≠ .pinLevelChange p d) ∧ held.pending = []
    ∧ Instr.startupEnd ∈ timerEvents ∧ ready.isDue .startupEnd = false :=
  ⟨by decide +kernel, by decide, by decide, fun _ _ => nofun, by decide +kernel, by decide +kernel, by decide +kernel⟩

theorem witness_WhatDoesNotCome_lapse : Instr.holderLapse .tilt 1 ∈ timerEvents
    ∧ ready.isDue (.holderLapse .tilt 1) = false ∧ ready.isDue (.watchLapse .tilt 1) = false
    ∧ (withSlot .tilt (watching 1 .settling)).isDue (.watchLapse .tilt 1) = true := by decide +kernel

theorem witness_DerivingSettles : ready.agenda = [] ∧ (ready.push .round).agenda = .round :: [] := by decide +kernel

theorem witness_TimerEventFrame : Instr.runDownEnd .khatch ∈ slotEvents ∧ Instr.pauseTimerExpiry 1 ∈ outputEvents
    ∧ (∃ t, exec (.runDownEnd .khatch) ready = .next t ∧ t.device.state ≠ .dormant)
    ∧ ∃ t, exec (.pauseTimerExpiry 1) ready = .next t ∧ t.device.state ≠ .dormant :=
  ⟨by decide +kernel, by decide +kernel, ⟨_, rfl, by decide +kernel⟩, ⟨_, rfl, by decide +kernel⟩⟩

theorem witness_FramesAreFound : (List.replicate 58 (0xA5 : Byte)).length ≤ 58 ∧ ([] : List Byte).length ≤ 58 := by
  decide +kernel

theorem witness_FramesAreFound_reply : (⟨0x7F, 0, .accepted, [], false⟩ : Reply).code.toNat < 0x80 := by decide

/-- The part in DORMANT. -/
def asleep : State := after .dormancyTimerExpiry dozing

/-- The part with no role for link 2. -/
def noRole : State := ready.setLink 2 { ready.link 2 with role := .absent }

theorem witness_FramesTakenAndLost : ((Instr.status 2 0 []).request?.map (·.link)) = some 2
    ∧ noRole.pins.resetbLow = false ∧ (noRole.link 2).role = .absent
    ∧ asleep.pins.resetbLow = false ∧ (asleep.link 2).role ≠ .absent ∧ asleep.device.state = .dormant := by decide +kernel

/-- Link 3 with the reply of a RESTART that waits, and a frame that drops it. -/
theorem witness_FramesTakenAndLost_restart : let s := after (.restart 3 0 []) ready
    (s.link 3).role ≠ .absent ∧ s.device.state ≠ .dormant ∧ s.pins.resetbLow = false
      ∧ (s.link 3).waiting = some ⟨0x5F, 0, .accepted, [], true⟩
      ∧ (Instr.status 3 0 []).request?.map (·.link) = some 3 := by decide +kernel

theorem witness_RequestsAreChecked : (Instr.hold 0 0 [0, 0]).request? = some ⟨0, 0x10, 0, holdPermission [0, 0], false⟩
    ∧ ready.takesFrame 0 = true ∧ (holdPermission [0, 0]).allows (ready.link 0).role = false
    ∧ (Instr.faults 0 0 [0]).request? = some ⟨0, 0x02, 0, everyRole, false⟩ ∧ State.reset.takesFrame 0 = true
    ∧ everyRole.allows (State.reset.link 0).role = true ∧ State.reset.device.state = .startup := by decide +kernel

theorem witness_RequestFrame : (Instr.output 0 0 [10, 1]).request? = some ⟨0, 0x31, 0, cabService, false⟩
    ∧ (∀ l tag ps, Instr.output 0 0 [10, 1] ≠ .configWrite l tag ps) ∧ ready.takesFrame 0 = true
    ∧ (∃ t, exec (.output 0 0 [10, 1]) ready = .next t) ∧ (1 : Link) ≠ 0 :=
  ⟨by decide +kernel, fun _ _ _ => nofun, by decide +kernel, ⟨_, rfl⟩, by decide⟩

theorem witness_ReadingRequests : ready.admits 0 everyRole ∧ ready.device.state ≠ .startup
    ∧ cabService.allows (ready.link 0).role = true ∧ ready.awake = true
    ∧ ready.tables.record 1 11 = some (.outputMap 11 none)
    ∧ ready.tables.record 7 31 = some (.step 31 .empty) := by unfold State.admits; decide +kernel

theorem witness_ReadingRequests_refusals : ([0] : List Byte) ≠ [] ∧ State.reset.admits 0 everyRole
    ∧ State.reset.device.state = .startup ∧ ([] : List Byte).length ≠ 1 ∧ ([0, 0] : List Byte).length ≠ 1
    ∧ cabService.allows (State.reset.link 0).role = true ∧ State.reset.awake = false
    ∧ ready.tables.record 1 12 = none ∧ ready.tables.record 0 0 = none := by unfold State.admits; decide +kernel

/-- Link 0 with a reply sent, one that waits, and a running gap timer. -/
def talking : State := ready.setLink 0 { ready.link 0 with
  rx := .length, gap := some 5000, sending := some ⟨1, 0, .accepted, [], false⟩, waiting := some ⟨2, 0, .accepted, [], false⟩ }

/-- Link 0 with a reply that waits alone. -/
def answering : State := ready.setLink 0 { ready.link 0 with waiting := some ⟨2, 0, .accepted, [], false⟩ }

theorem witness_LineEvents : talking.pins.resetbLow = false ∧ talking.device.state ≠ .dormant
    ∧ ([0x02] : List Byte) ≠ [] ∧ Rx.run (talking.link 0).rx [0x02] = .body 2 []
    ∧ (talking.link 0).gap = some 5000 ∧ (answering.link 0).waiting = some ⟨2, 0, .accepted, [], false⟩
    ∧ (answering.link 0).sending = none ∧ (talking.link 0).sending = some ⟨1, 0, .accepted, [], false⟩
    ∧ (talking.link 0).waiting = some ⟨2, 0, .accepted, [], false⟩ ∧ answering.pins.resetbLow = false
    ∧ answering.device.state ≠ .dormant := by decide +kernel

/-! ### Witnesses: resets and roles -/

theorem witness_PowerOnResets : ready.pins.resetbLow = false := by decide +kernel
theorem witness_PinResets : ready.pins.resetbLow = false ∧ held.pins.resetbLow = true := by decide +kernel

/-- Link 3 with a RESTART reply, on the line or waiting. -/
def restarting (sending : Bool) : State :=
  let r : Reply := ⟨0x5F, 0, .accepted, [], true⟩
  ready.setLink 3 { ready.link 3 with sending := if sending then some r else none, waiting := if sending then none else some r }

theorem witness_RestartFollowsItsReply : ready.admits 3 serviceOnly ∧ ready.device.state ≠ .startup
    ∧ (restarting true).pins.resetbLow = false
    ∧ ((restarting true).link 3).sending = some ⟨0x5F, 0, .accepted, [], true⟩
    ∧ ((restarting false).link 3).waiting = some ⟨0x5F, 0, .accepted, [], true⟩ := by unfold State.admits; decide +kernel

theorem witness_RestartFollowsItsReply_refusals : State.reset.admits 3 serviceOnly ∧ State.reset.device.state = .startup
    ∧ ([0] : List Byte) ≠ [] := by unfold State.admits; decide +kernel

theorem witness_RestartFollowsItsReply_kinds : ∀ k ∈ [ResetKind.brownOut, .clock, .restart],
    (ready.resetPart k).device.state = .startup := by decide +kernel

theorem witness_RolesAreLatched : (∃ t, exec .resetbRelease held = .next t) ∧ ∃ t, exec (.stopAll 0 0 []) ready = .next t :=
  ⟨⟨_, rfl⟩, ⟨_, rfl⟩⟩

/-! ### Witnesses: motions -/

theorem witness_HoldStarts : motionOfBytes 0 1 = some (.lift, .ret) ∧ ready.admits 1 (holdPermission [0, 1])
    ∧ ready.device.state = .ready ∧ (ready.policy .lift .ret).hold = true ∧ (ready.slot .lift).state = .idle
    ∧ ready.strokeMapped .lift .ret = true ∧ ready.ready .lift .ret = true ∧ ready.cond .parked = true
    ∧ ready.cond .standstill = true ∧ ready.cond .estopClear = true
    ∧ (ready.endTestValid .lift && ready.endTest .lift .ret ((ready.takenTarget .lift .ret none).getD 0)) = false := by
  unfold State.admits; decide +kernel

/-- The state has a motion that is kept alive. -/
def keptAlive (s : State) (a : Actuator) : Bool :=
  decide ((s.slot a).state = .waiting ∨ (s.slot a).state.granted = true ∧ (s.slot a).state ≠ .settling)

theorem witness_HoldAtABusySlot : motionOfBytes 2 0 = some (.khatch, .powered)
    ∧ (∀ s ∈ [withSlot .khatch (ownedBy (.link 0) .waiting .powered), withSlot .khatch (ownedBy (.ctx 1) .running .ret),
        withSlot .khatch (heldBy 2 .holding .powered), withSlot .khatch (heldBy 2 .priming .ret),
        withSlot .khatch (watching 2 .settling), withSlot .khatch (watching 2 .blocked)],
      s.takesFrame 2 = true ∧ (holdPermission [2, 0]).allows (s.link 2).role = true ∧ s.device.state = .ready
        ∧ (s.policy .khatch .powered).hold = true)
    ∧ keptAlive (withSlot .khatch (ownedBy (.link 0) .waiting .powered)) .khatch = true
    ∧ keptAlive (withSlot .khatch (ownedBy (.ctx 1) .running .ret)) .khatch = true
    ∧ ((withSlot .khatch (ownedBy (.ctx 1) .running .ret)).slot .khatch).owner ≠ none
    ∧ keptAlive (withSlot .khatch (heldBy 2 .holding .powered)) .khatch = true
    ∧ ((withSlot .khatch (heldBy 2 .holding .powered)).slot .khatch).owner = none
    ∧ ((withSlot .khatch (heldBy 2 .holding .powered)).slot .khatch).stroke = some .powered
    ∧ ((withSlot .khatch (watching 2 .settling)).slot .khatch).state = .settling
    ∧ ((withSlot .khatch (watching 2 .blocked)).slot .khatch).state = .blocked
    ∧ keptAlive (withSlot .khatch (heldBy 2 .priming .ret)) .khatch = true
    ∧ ((withSlot .khatch (heldBy 2 .priming .ret)).slot .khatch).owner = none
    ∧ ((withSlot .khatch (heldBy 2 .priming .ret)).slot .khatch).stroke ≠ some .powered := by decide +kernel

/-- The result of the checks of a MOVE, as MotionRefusals writes them. -/
def moveResult (s : State) (a : Actuator) (k : Stroke) (target : Option Nat) : Result :=
  if s.device.state ≠ .ready then .refusedState
  else if (s.policy a k).run = false ∨ (target ≠ none ∧ a.hatch? ≠ none) then .badParam
  else if (s.slot a).state ≠ .idle then .busy
  else if s.strokeMapped a k = false then .notConfigured
  else if s.ready a k = false ∨ s.cond .parked = false ∨ s.cond .standstill = false ∨ s.cond .estopClear = false then .blocked
  else if s.endTestValid a = true ∧ s.endTest a k ((s.takenTarget a k target).getD 0) = true then .atLimit
  else .accepted

/-- The channel of KHATCHV is given away. -/
def unmapped : State := { ready with tables := { ready.tables with outputMap := ready.tables.outputMap.set 3 none } }

/-- LIFT with RUN in its modes. -/
def liftRuns : State := { ready with tables := { ready.tables with
  policy := ready.tables.policy.set (strokeIx .lift .ret) ⟨5, true, true, 30, CondSet.empty⟩ } }

/-- Each refusal of the checks is met by a state, and the AT_LIMIT test at its boundary: at 305 mm for a target of 300. -/
theorem witness_MotionRefusals : moveOfBytes [2, 0] = some (.khatch, .powered, none)
    ∧ moveOfBytes [0, 1, 1, 44] = some (.lift, .ret, some 300)
    ∧ (∀ s ∈ [inState .stopped, ready, withSlot .khatch (watching 2 .blocked), unmapped, liftRuns],
        s.takesFrame 0 = true ∧ cabOnly.allows (s.link 0).role = true ∧ s.device.state ≠ .startup)
    ∧ moveResult (inState .stopped) .khatch .powered none = .refusedState
    ∧ moveResult ready .lift .ret (some 300) = .badParam ∧ moveResult ready .khatch .ret (some 0) = .badParam
    ∧ moveResult (withSlot .khatch (watching 2 .blocked)) .khatch .powered none = .busy
    ∧ moveResult unmapped .khatch .powered none = .notConfigured
    ∧ moveResult { ready with permit := { ready.permit with ready := Table.fill 8 false } } .khatch .powered none = .blocked
    ∧ moveResult (liftRuns.setCapture .height (steady 305)) .lift .ret (some 300) = .atLimit
    ∧ moveResult (liftRuns.setCapture .height (steady 306)) .lift .ret (some 300) = .accepted := by decide +kernel

/-- The result of the checks of a HOLD, as MotionRefusals writes them. -/
def holdResult (s : State) (a : Actuator) (k : Stroke) : Result :=
  if s.device.state ≠ .ready then .refusedState
  else if (s.policy a k).hold = false then .badParam
  else if (s.slot a).state ≠ .idle then .accepted
  else if s.strokeMapped a k = false then .notConfigured
  else if s.ready a k = false ∨ s.cond .parked = false ∨ s.cond .standstill = false ∨ s.cond .estopClear = false then .blocked
  else if s.endTestValid a = true ∧ s.endTest a k ((s.takenTarget a k none).getD 0) = true then .atLimit
  else .accepted

/-- LIFT without HOLD in its modes. -/
def liftBarred : State := { ready with tables := { ready.tables with
  policy := ready.tables.policy.set (strokeIx .lift .ret) ⟨5, false, true, 30, CondSet.empty⟩ } }

/-- A second channel names KHATCHV (R133: exactly one entry maps a function). -/
def doubled : State := { ready with tables := { ready.tables with outputMap := ready.tables.outputMap.set 8 (some .khatchv) } }

/-- Each refusal of a HOLD is met by a state, AT_LIMIT at its boundary of 5 mm; and bytes that name no motion. -/
theorem witness_MotionRefusals_hold : motionOfBytes 0 1 = some (.lift, .ret) ∧ motionOfBytes 2 0 = some (.khatch, .powered)
    ∧ (∀ s ∈ [inState .stopped, ready, liftBarred, unmapped, doubled],
        s.takesFrame 1 = true ∧ (holdPermission [0, 1]).allows (s.link 1).role = true
          ∧ (holdPermission [2, 0]).allows (s.link 2).role = true ∧ s.device.state ≠ .startup)
    ∧ holdResult (inState .stopped) .lift .ret = .refusedState ∧ holdResult liftBarred .lift .ret = .badParam
    ∧ holdResult unmapped .khatch .powered = .notConfigured ∧ holdResult doubled .khatch .powered = .notConfigured
    ∧ holdResult { ready with permit := { ready.permit with ready := Table.fill 8 false } } .khatch .powered = .blocked
    ∧ holdResult (ready.setCapture .height (steady 5)) .lift .ret = .atLimit
    ∧ holdResult (ready.setCapture .height (steady 6)) .lift .ret = .accepted
    ∧ moveOfBytes [4, 0] = none ∧ moveOfBytes [0, 1, 1] = none ∧ motionOfBytes 3 2 = none ∧ ready.device.state = .ready
    ∧ ready.takesFrame 0 = true ∧ cabOnly.allows (ready.link 0).role = true
    ∧ (holdPermission [0]).allows (ready.link 1).role = true := by decide +kernel

theorem witness_MoveStarts : moveOfBytes [0, 1, 0, 100] = some (.lift, .ret, some 100) ∧ liftRuns.admits 0 cabOnly
    ∧ liftRuns.device.state = .ready ∧ (liftRuns.policy .lift .ret).run = true ∧ Actuator.lift.hatch? = none
    ∧ (liftRuns.slot .lift).state = .idle ∧ liftRuns.strokeMapped .lift .ret = true ∧ liftRuns.ready .lift .ret = true
    ∧ liftRuns.cond .parked = true ∧ liftRuns.cond .standstill = true ∧ liftRuns.cond .estopClear = true
    ∧ (liftRuns.endTestValid .lift && liftRuns.endTest .lift .ret ((liftRuns.takenTarget .lift .ret (some 100)).getD 0)) = false
    ∧ moveOfBytes [3, 0] = some (.ohatch, .powered, none) ∧ Actuator.khatch.hatch? ≠ none := by
  unfold State.admits; decide +kernel

/-- A slot with two holders and two watching links. -/
def shared : State := withSlot .lift fun r => { heldBy 1 .waiting .ret r with
  holders := (LinkTimers.none.set 1 (some 5)).set 3 (some 7), watch := (LinkTimers.none.set 0 (some 5)).set 1 (some 7) }

theorem witness_ReleaseLetsGo : Actuator.ofByte 0 = some .lift
    ∧ (∀ s ∈ [shared, withSlot .lift (heldBy 1 .running .ret), withSlot .lift (watching 1 .blocked),
          withSlot .lift (watching 1 .settling), ready],
        s.takesFrame 1 = true ∧ (holdPermission [0]).allows (s.link 1).role = true ∧ s.device.state = .ready)
    ∧ (shared.slot .lift).holders.get 1 ≠ none ∧ LinkTimers.isEmpty ((shared.slot .lift).holders.set 1 none) = false
    ∧ (let r := (withSlot .lift (heldBy 1 .running .ret)).slot .lift;
        r.holders.get 1 ≠ none ∧ LinkTimers.isEmpty (r.holders.set 1 none) = true)
    ∧ (let r := (withSlot .lift (watching 1 .blocked)).slot .lift;
        r.holders.get 1 = none ∧ r.watch.get 1 ≠ none ∧ r.state = .blocked)
    ∧ (ready.slot .lift).holders.get 1 = none ∧ (ready.slot .lift).watch.get 1 = none := by decide +kernel

theorem witness_ReleaseLetsGo_refusals : State.reset.admits 1 (holdPermission [0]) ∧ State.reset.device.state ≠ .ready
    ∧ (inState .stopped).admits 1 (holdPermission [0]) ∧ (inState .stopped).device.state ≠ .ready
    ∧ ready.admits 1 (holdPermission [4]) ∧ Actuator.ofByte 4 = none ∧ ready.admits 1 (holdPermission []) := by
  unfold State.admits; decide +kernel

theorem witness_CancelEnds : Actuator.ofByte 3 = some .ohatch ∧ ready.admits 0 cabOnly ∧ ready.device.state = .ready
    ∧ keptAlive (withSlot .ohatch (ownedBy (.link 0) .running .powered)) .ohatch = true
    ∧ ((withSlot .ohatch (ownedBy (.link 0) .running .powered)).slot .ohatch).owner = some (.link 0)
    ∧ keptAlive (withSlot .ohatch (ownedBy (.ctx 0) .waiting .powered)) .ohatch = true
    ∧ (∀ m, ((withSlot .ohatch (ownedBy (.ctx 0) .waiting .powered)).slot .ohatch).owner ≠ some (.link m))
    ∧ keptAlive ready .ohatch = false ∧ keptAlive (withSlot .ohatch (watching 2 .settling)) .ohatch = false := by
  unfold State.admits; decide +kernel

theorem witness_CancelEnds_refusals : (inState .config).admits 0 cabOnly ∧ (inState .config).device.state ≠ .ready
    ∧ Actuator.ofByte 4 = none ∧ Actuator.ofByte 0xFF = none := by unfold State.admits; decide +kernel

/-- The supply agreement of a state, checked actuator by actuator. -/
theorem supplyAgrees_of {s : State} (h1 : s.arbiter.callList.Nodup)
    (h2 : ∀ a ∈ Actuator.all, (a ∈ s.arbiter.callList ↔ (s.slot a).state = .waiting)
      ∧ (s.grant a.circuit = some a ↔ (s.slot a).state.granted = true)
      ∧ (s.arbiter.pumpOwner = some a ↔ ((s.slot a).state.granted = true ∧ (s.slot a).stroke = some .powered))
      ∧ ∀ c ∈ [Circuit.liftCircuit, .hatchCircuit], s.grant c = some a → a.circuit = c) : s.SupplyAgrees := by
  have m : ∀ a, a ∈ Actuator.all := by intro a; cases a <;> decide
  have n : ∀ c, c ∈ [Circuit.liftCircuit, .hatchCircuit] := by intro c; cases c <;> decide
  exact ⟨h1, fun a => (h2 a (m a)).1, fun a => (h2 a (m a)).2.1, fun c a h => (h2 a (m a)).2.2.2 c (n c) h,
    fun a => (h2 a (m a)).2.2.1⟩

/-- A granted hatch slot, for an end that blocks (CONFLICT) and one that does not (CANCELLED). -/
theorem witness_EndsComplete : primingHatch.SupplyAgrees ∧ Ending.conflict ≠ .none ∧ Ending.cancelled ≠ .none
    ∧ Ending.conflict ≠ .stopped ∧ Ending.conflict.cls = .blocking
    ∧ (primingHatch.slot .khatch).state ≠ .settling
    ∧ ((primingHatch.slot .khatch).holders.join (primingHatch.slot .khatch).watch).isEmpty = false
    ∧ Ending.cancelled.cls ≠ .blocking :=
  ⟨supplyAgrees_of (by decide +kernel) (by decide +kernel), by decide, by decide, by decide, by decide, by decide +kernel,
    by decide +kernel, by decide⟩

/-- A hatch slot in SETTLING after a time-out, with a watched link, and one after a release. -/
def timedOut : State := after (.runLimitExpiry .khatch) (runningHatch.setSlot .khatch
  { runningHatch.slot .khatch with runTimer := 20000000 })
def released : State := after (.release 2 8 [2]) runningHatch

/-- The end of a settling slot, blocked by the class that settling began with and not blocked. -/
theorem witness_EndsComplete_settling : (timedOut.SupplyAgrees ∧ released.SupplyAgrees)
    ∧ ((timedOut.slot .khatch).state = .settling ∧ (timedOut.slot .khatch).endClass = some .blocking
      ∧ ((timedOut.slot .khatch).holders.join (timedOut.slot .khatch).watch).isEmpty = false
      ∧ (released.slot .khatch).state = .settling ∧ (released.slot .khatch).endClass = some .normal) :=
  ⟨⟨supplyAgrees_of (by decide +kernel) (by decide +kernel), supplyAgrees_of (by decide +kernel) (by decide +kernel)⟩,
    by decide +kernel⟩

/-- The owners of a completed motion: a context, a link, and a context to report to. -/
theorem witness_EndsComplete_report :
    ((withSlot .tilt (ownedBy (.ctx 1) .running .ret)).slot .tilt).owner = some (.ctx 1)
    ∧ (∀ c, ((withSlot .tilt (ownedBy (.link 0) .running .ret)).slot .tilt).owner ≠ some (.ctx c))
    ∧ ((withSlot .tilt (ownedBy (.link 0) .running .ret)).slot .tilt).reportTo = none
    ∧ (∀ c, ((withSlot .tilt fun r => { watching 1 .settling r with reportTo := some 0 }).slot .tilt).owner ≠ some (.ctx c))
    ∧ ((withSlot .tilt fun r => { watching 1 .settling r with reportTo := some 0 }).slot .tilt).reportTo = some 0 := by
  decide +kernel

theorem witness_EndsByState : (ready.slot .tilt).state = .idle
    ∧ ((withSlot .tilt (watching 1 .blocked)).slot .tilt).state = .blocked
    ∧ ((withSlot .tilt (heldBy 1 .holding .ret)).slot .tilt).state = .holding
    ∧ ((withSlot .tilt (heldBy 1 .running .ret)).slot .tilt).state = .running
    ∧ ((withSlot .tilt (heldBy 1 .running .ret)).slot .tilt).stroke ≠ some .powered
    ∧ ((withSlot .lift (heldBy 1 .running .ret)).slot .lift).state = .running
    ∧ ((withSlot .tilt (heldBy 1 .running .powered)).slot .tilt).stroke = some .powered
    ∧ Ending.released.isSettling = true ∧ Ending.interlock.isSettling = false
    ∧ ((withSlot .tilt (watching 1 .settling)).slot .tilt).state = .settling := by decide +kernel

theorem witness_EndsByState_settled :
    ((withSlot .tilt (ownedBy (.ctx 1) .running .powered)).slot .tilt).owner = some (.ctx 1)
    ∧ (∀ c, ((withSlot .tilt (heldBy 1 .running .powered)).slot .tilt).owner ≠ some (.ctx c))
    ∧ ¬(Ending.released.isSettling = true ∧ ((Actuator.tilt = .lift)
      ∨ ((withSlot .tilt (heldBy 1 .running .ret)).slot .tilt).stroke = some .powered))
    ∧ (timedOut.slot .khatch).state = .settling ∧ Ending.stopped.isSettling = false := by decide +kernel

theorem witness_HoldersAndWatchersLapse : ready.pins.resetbLow = false ∧ 10000 * ready.tables.timing.refresh ≤ 200000
    ∧ ((withSlot .tilt (heldBy 1 .running .ret)).slot .tilt).holders.get 1 = some 200000
    ∧ ((withSlot .tilt (watching 1 .blocked)).slot .tilt).watch.get 1 = some 200000 := by decide +kernel

theorem witness_HoldersAndWatchersLapse_moved : let r := (withSlot .tilt (watching 1 .settling)).slot .tilt
    r.holders.get 1 = none ∧ r.watch.get 1 = some 200000 := by decide +kernel

theorem witness_SlotTimersEnd : ready.pins.resetbLow = false
    ∧ (let r := (withSlot .tilt fun r => { heldBy 1 .running .ret r with runTimer := 15000000 }).slot .tilt;
        r.state = .running ∧ r.stroke = some .ret ∧ 1000000 * (ready.policy .tilt .ret).runLimit ≤ r.runTimer)
    ∧ (let r := (withSlot .tilt fun r => { heldBy 1 .holding .ret r with holdTimer := some 5000000 }).slot .tilt;
        r.state = .holding ∧ r.holdTimer = some 5000000)
    ∧ (let r := (withSlot .tilt fun r => { watching 1 .settling r with runDown := some 100000 }).slot .tilt;
        r.state = .settling ∧ r.runDown = some 100000)
    ∧ ({ ready with profile := ⟨0, none, some 500000⟩ } : State).profile.overload = some 500000 := by decide +kernel

/-- A ramp-out at a duty. -/
def rampingOut (u : Nat) : State :=
  (lowering 300 0 85 24000 u).setSlot .lift { (lowering 300 0 85 24000 u).slot .lift with state := .settling }

/-- The end test at its boundary (5 mm and 6 mm above the target), and the ramp-out on both sides of 280. -/
theorem witness_ProfileUpdates : (lowering 5 0 85 24000 300).pins.resetbLow = false
    ∧ (lowering 5 0 85 24000 300).profile.update = some 10000
    ∧ ((lowering 5 0 85 24000 300).slot .lift).state = .running
    ∧ (lowering 5 0 85 24000 300).endTest .lift .ret 0 = true ∧ (lowering 6 0 85 24000 300).endTest .lift .ret 0 = false
    ∧ ((rampingOut 279).slot .lift).state = .settling ∧ ((rampingOut 279).slot .lift).u < 250 + 30
    ∧ 250 + 30 ≤ ((rampingOut 280).slot .lift).u ∧ (rampingOut 280).tables.profile.umin = 250
    ∧ (rampingOut 280).tables.profile.rdown = 30 ∧ (rampingOut 280).profile.update = some 10000
    ∧ (lowering 6 0 85 24000 300).batteryAverage ≠ 0 := by decide +kernel

/-- A tilt in a powered run to a target. -/
def tilting (target : Nat) : State := withSlot .tilt fun r => { heldBy 1 .running .powered r with target := some target }

/-- The end tests of the other strokes at their boundaries (300 with a stop band of 10), and the hatch positions. -/
theorem witness_ProfileUpdates_reports : ((tilting 310).slot .tilt).state = .running
    ∧ ((tilting 310).slot .tilt).stroke = some .powered ∧ (tilting 310).endTest .tilt .powered 310 = true
    ∧ (tilting 311).endTest .tilt .powered 311 = false ∧ (ready.slot .tilt).state ≠ .running
    ∧ ((withSlot .lift (heldBy 1 .running .ret)).slot .lift).stroke = some .ret
    ∧ ready.hatchPos .kerbside = .shut
    ∧ ((withSlot .khatch (heldBy 1 .running .ret)).slot .khatch).state = .running
    ∧ ((withSlot .khatch (heldBy 1 .running .ret)).slot .khatch).stroke = some .ret
    ∧ ready.permit.switchFault.get (Hatch.kerbside).ix = false := by decide +kernel

theorem witness_PumpWatches : ready.pins.resetbLow = false
    ∧ (let s := primingHatch.setPrime .khatch (.running 1000000);
        (s.slot .khatch).state = .priming ∧ s.prime .khatch = .running 1000000 ∧ 1000 * s.tables.timing.primeLimit ≤ 1000000)
    ∧ ({ ready with stuck := ⟨some 500000, false⟩ } : State).stuck.timer = some 500000 := by decide +kernel

/-- The contact open with the hatch running, and with a hatch past its prime limit. -/
def pumpLost : State := runningHatch.setInput .pumprun (settledAt true)
def primePassed : State := { primingHatch.setPrime .khatch .passed with stuck := ⟨none, true⟩ }

theorem witness_PumpWatches_contact : runningHatch.asserted .pumprun = true
    ∧ ready.asserted .pumprun = false ∧ ready.arbiter.pumpOwner = none
    ∧ pumpLost.asserted .pumprun = false ∧ pumpLost.arbiter.pumpOwner = some .khatch
    ∧ (pumpLost.slot .khatch).state = .running
    ∧ primePassed.asserted .pumprun = false ∧ primePassed.arbiter.pumpOwner = some .khatch
    ∧ (primePassed.slot .khatch).state = .priming ∧ primePassed.prime .khatch = .passed ∧ primePassed.stuck.flag = true := by
  decide +kernel

/-! ### Witnesses: allocation and conditions -/

/-- Two waiting slots: a return stroke of the lift and a powered stroke of a hatch. -/
def twoWaiting : State :=
  ((ready.setSlot .lift { heldBy 1 .waiting .ret (ready.slot .lift) with need := ready.requirement .lift .ret none }).setSlot
    .khatch { heldBy 2 .waiting .powered (ready.slot .khatch) with need := ready.requirement .khatch .powered none })

/-- They wait in the call list. -/
def called : State := { twoWaiting with arbiter := { twoWaiting.arbiter with callList := [.lift, .khatch] } }

theorem witness_RoundsGrant : called.SupplyAgrees ∧ called.device.state = .ready ∧ called.arbiter.pumpOwner = none
    ∧ called.candidate .liftCircuit = some .lift ∧ called.candidate .hatchCircuit = some .khatch
    ∧ (called.isPowered .lift && called.isPowered .khatch) = false
    ∧ (called.takeRound.slot .khatch).state = .priming ∧ (called.slot .khatch).state ≠ .priming
    ∧ called.isPowered .khatch = true ∧ (called.takeRound.slot .tilt).state ≠ .priming :=
  ⟨supplyAgrees_of (by decide +kernel) (by decide +kernel), by decide +kernel⟩

/-- Two waiting powered strokes, with the priority of the hatch's and the order of the call list. -/
def rivals (priority : Nat) (order : List Actuator) : State :=
  let s := ((ready.setSlot .lift { heldBy 1 .waiting .powered (ready.slot .lift) with
      need := ready.requirement .lift .powered none }).setSlot .khatch
    { heldBy 2 .waiting .powered (ready.slot .khatch) with need := ready.requirement .khatch .powered none })
  { s with
    arbiter := { s.arbiter with callList := order }
    tables := { s.tables with
      policy := s.tables.policy.set (strokeIx .khatch .powered) ⟨priority, true, true, 20, CondSet.empty⟩ } }

/-- LIFT waits to lower while a hatch has the pump, and waits to raise. -/
def pumpTaken (k : Stroke) : State :=
  let s := runningHatch.setSlot .lift { heldBy 1 .waiting k (ready.slot .lift) with need := ready.requirement .lift k none }
  { s with arbiter := { s.arbiter with callList := [.lift] } }

/-- The powered candidates by priority, and between equals by their order; and a candidate while the pump is owned. -/
theorem witness_RoundsGrant_powered :
    ((rivals 3 [.khatch, .lift]).SupplyAgrees ∧ (rivals 4 [.khatch, .lift]).SupplyAgrees
      ∧ (pumpTaken .ret).SupplyAgrees ∧ (pumpTaken .powered).SupplyAgrees)
    ∧ (∀ s ∈ [rivals 3 [.khatch, .lift], rivals 4 [.khatch, .lift], rivals 4 [.lift, .khatch], rivals 5 [.lift, .khatch]],
        s.device.state = .ready ∧ s.arbiter.pumpOwner = none ∧ s.candidate .liftCircuit = some .lift
          ∧ s.candidate .hatchCircuit = some .khatch ∧ s.isPowered .lift = true ∧ s.isPowered .khatch = true)
    ∧ (rivals 3 [.khatch, .lift]).priorityOf .khatch < (rivals 3 [.khatch, .lift]).priorityOf .lift
    ∧ (rivals 4 [.khatch, .lift]).priorityOf .khatch = (rivals 4 [.khatch, .lift]).priorityOf .lift
    ∧ (rivals 4 [.khatch, .lift]).arbiter.callList.idxOf .khatch < (rivals 4 [.khatch, .lift]).arbiter.callList.idxOf .lift
    ∧ (rivals 4 [.lift, .khatch]).arbiter.callList.idxOf .lift < (rivals 4 [.lift, .khatch]).arbiter.callList.idxOf .khatch
    ∧ (rivals 5 [.lift, .khatch]).priorityOf .lift < (rivals 5 [.lift, .khatch]).priorityOf .khatch
    ∧ (∀ k ∈ [Stroke.powered, .ret], (pumpTaken k).device.state = .ready ∧ (pumpTaken k).arbiter.pumpOwner ≠ none
        ∧ (pumpTaken k).candidate .liftCircuit = some .lift)
    ∧ (pumpTaken .powered).isPowered .lift = true ∧ (pumpTaken .ret).isPowered .lift = false
    ∧ (inState .stopped).device.state ≠ .ready :=
  ⟨⟨supplyAgrees_of (by decide +kernel) (by decide +kernel), supplyAgrees_of (by decide +kernel) (by decide +kernel),
      supplyAgrees_of (by decide +kernel) (by decide +kernel), supplyAgrees_of (by decide +kernel) (by decide +kernel)⟩,
    by decide +kernel⟩

theorem witness_CandidatesHavePriority : called.grant .liftCircuit = none ∧ called.candidate .liftCircuit = some .lift
    ∧ Actuator.lift ∈ called.arbiter.callList ∧ called.permitted .lift = true ∧ ready.grant .hatchCircuit = none
    ∧ ready.candidate .hatchCircuit = none := by decide +kernel

theorem witness_CandidatesHavePriority_granted : primingHatch.grant .hatchCircuit ≠ none
    ∧ (called.slot .khatch).stroke = some .powered := by decide +kernel

/-- A granted slot that needs every condition. -/
def needy (st : SlotState) (k : Stroke) : State := withSlot .lift fun r => { heldBy 1 st k r with need := Table.fill 18 true }

theorem witness_LostConditionsEnd : ((needy .running .powered).slot .lift).state.granted = true
    ∧ ((needy .settling .ret).slot .lift).state.granted = true
    ∧ (∀ c ∈ Cond.all, ((needy .running .powered).slot .lift).need.has c = true)
    ∧ Cond.gate1.isHold = true ∧ Cond.parked ∈ [Cond.parked, .ignitionOn, .stowed]
    ∧ ((withSlot .lift (heldBy 1 .priming .ret)).slot .lift).need.has .parked = false := by decide +kernel

/-- A slot in HOLDING whose gates hold, and one whose gate does not. -/
theorem witness_LostConditionsEnd_gates :
    (let s := withSlot .lift (heldBy 1 .holding .powered);
      (s.slot .lift).state = .holding ∧ ∀ c ∈ Cond.all, c.isHold = true → (s.slot .lift).need.has c = true → s.cond c = true)
    ∧ (let s := needy .holding .ret;
      (s.slot .lift).state = .holding ∧ Cond.gate0.isHold = true ∧ (s.slot .lift).need.has .gate0 = true
        ∧ s.cond .gate0 = false)
    ∧ (ready.slot .lift).state.granted = false
    ∧ ((needy .running .powered).slot .lift).stroke = some .powered ∧ ((needy .running .ret).slot .lift).stroke ≠ some .powered
    ∧ (∀ c ∈ [Cond.heightValid, .estopClear, .ohOpen], ((needy .running .ret).slot .lift).need.has c = true) := by
  decide +kernel

theorem witness_BaseSets : called.isPowered .khatch = true ∧ called.permitted .khatch = true
    ∧ (Actuator.ohatch = .khatch ∨ Actuator.ohatch = .ohatch) := by decide +kernel

/-! ### Witnesses: inputs and measurement -/

/-- The part with a pull-down on GATE0. -/
def pulledDown : State := { ready with tables := { ready.tables with
  inputSetup := ready.tables.inputSetup.set 10 ⟨.down, .activeLow⟩ } }

theorem witness_PinsFollow : (ready.setup .park).bias = .up ∧ (pulledDown.setup .gate0).bias = .down
    ∧ (∃ t, exec (.pinLevelChange (.input .park) .high) ready = .next t ∧ (t.input .park).level ≠ (ready.input .park).level)
    ∧ (∃ t, exec (.pinLevelChange (.input .park) .low) ready = .next t ∧ (t.input .park).level = (ready.input .park).level)
    ∧ Input.park ≠ .speed ∧ ready.device.state ≠ .dormant ∧ Input.stow ≠ .park :=
  ⟨by decide +kernel, by decide +kernel, ⟨_, rfl, by decide +kernel⟩, ⟨_, rfl, by decide +kernel⟩, by decide, by decide +kernel,
    by decide⟩

/-- SPEED's level and IGN's in DORMANT change, to the level already taken and to another. -/
theorem witness_PinsFollow_watches :
    (∃ t, exec (.pinLevelChange (.input .speed) .high) ready = .next t ∧ (t.input .speed).level ≠ (ready.input .speed).level
        ∧ (t.input .speed).timer = some 0)
      ∧ asleep.device.state = .dormant
      ∧ (∃ t, exec (.pinLevelChange (.input .ign) .low) asleep = .next t ∧ (t.input .ign).level ≠ (asleep.input .ign).level
        ∧ t.device.ignWatch = some 0 ∧ (t.input .ign).timer = none)
      ∧ ∃ t, exec (.pinLevelChange (.input .ign) .high) asleep = .next t ∧ (t.input .ign).level = (asleep.input .ign).level :=
  ⟨⟨_, rfl, by decide +kernel, by decide +kernel⟩, by decide +kernel,
    ⟨_, rfl, by decide +kernel, by decide +kernel, by decide +kernel⟩, _, rfl, by decide +kernel⟩

theorem witness_PinsFollow_unbiased : (ready.setup .speed).bias = .none ∧ (ready.setup .park).bias = .up := by decide +kernel

theorem witness_InputsSettle : let s := ready.setInput .estop ⟨.high, true, some false, some 20000⟩
    s.pins.resetbLow = false ∧ Input.estop ≠ .speed ∧ (s.input .estop).timer = some 20000 := by decide +kernel

theorem witness_InputsSettle_together : let s := swinging ready
    s.pins.resetbLow = false ∧ s.awake = true ∧ (s.input Hatch.kerbside.shutSwitch).timer = some 20000
      ∧ (s.input Hatch.kerbside.openSwitch).timer = some 20000 ∧ s.hatchPos .kerbside = .shut := by decide +kernel

/-- ESTOP asserted, with the flag set or not. -/
def pressed (flag : Bool) : State :=
  { ready.setInput .estop (settledAt true) with device := { ready.device with estopFlag := flag } }

theorem witness_EmergencyStops : (pressed false).awake = true ∧ (pressed false).asserted .estop = true
    ∧ (pressed false).device.estopFlag = false ∧ (pressed true).awake = true ∧ (pressed true).asserted .estop = true
    ∧ (pressed true).device.estopFlag = true ∧ ready.deasserted .estop = true
    ∧ ({ ready with device := { ready.device with estopFlag := true } } : State).awake = true := by decide +kernel

/-- SPEED pin and the level last taken, at the end of the filter. -/
def speedAt (level : Bool) (taken : Option Bool) : State :=
  ready.setInput .speed ⟨if level then .high else .low, level, taken, some 1000⟩

theorem witness_SpeedAndQuiet : ready.pins.resetbLow = false ∧ ready.awake = true
    ∧ ((speedAt true (some false)).input .speed).timer = some 1000
    ∧ ((speedAt true (some false)).setup .speed).polarity.asserts true = true
    ∧ ((speedAt true (some false)).input .speed).debounced ≠ none
    ∧ ((speedAt false (some true)).setup .speed).polarity.asserts false = false
    ∧ ((speedAt false (some true)).input .speed).debounced ≠ none
    ∧ ((speedAt true none).input .speed).debounced = none ∧ State.reset.awake = false
    ∧ (risen 250000).permit.lastRise = some 250000
    ∧ ({ ready.permit with quiet := some 2000000 } : Permit).quiet = some 2000000 := by decide +kernel

theorem witness_EdgesMakeCaptures : ready.pins.resetbLow = false ∧ ready.device.state ≠ .dormant
    ∧ (ready.capture .tilt).openPeriod = none
    ∧ ((withPeriod .tilt 4000 2200 (steady 300)).capture .tilt).openPeriod = some ⟨0xFF00, some (0xFF00 + 2200)⟩
    ∧ ((ready.setCapture .tilt { steady 300 with openPeriod := some ⟨7, none⟩ }).capture .tilt).openPeriod = some ⟨7, none⟩
    ∧ ((ready.setCapture .tilt { steady 300 with lost := some 40000 }).capture .tilt).lost = some 40000 := by decide +kernel

/-- A channel with a window, its count of bad captures and its flags. -/
def windowed (w : List Nat) (bad : Nat) (valid range lost : Bool) : State :=
  ready.setCapture .height ⟨none, w, bad, valid, 300, some 0, range, lost⟩

/-- The third and the fourth value of a window, with the flags set; the second and third bad capture. -/
theorem witness_EdgesMakeCaptures_window : ((windowed [1, 2] 0 false true true).capture .height).window.length ≤ 4
    ∧ (let r := (windowed [1, 2, 3] 3 false true true).capture .height;
        r.window.length ≤ 4 ∧ r.valid = false ∧ (r.window ++ [4]).length = 4 ∧ r.rangeFlag = true ∧ r.lostFlag = true)
    ∧ ((windowed [1, 2, 3, 4] 0 true false false).capture .height).window.length = 4 ∧ ready.device.state ≠ .startup
    ∧ (let r := (windowed [1, 2, 3, 4] 1 true false false).capture .height; r.valid = true ∧ r.bad + 1 < 3)
    ∧ (let r := (windowed [1, 2, 3, 4] 2 true false false).capture .height;
        r.valid = true ∧ 3 ≤ r.bad + 1 ∧ r.rangeFlag = false)
    ∧ (let r := (windowed [] 3 false true false).capture .height;
        r.valid = false ∧ 3 ≤ min 3 (r.bad + 1) ∧ ¬(r.rangeFlag = false)) := by decide +kernel

/-- 4.2 at the ends of the ranges: periods of 1000 and 10,000 µs, duties of 50, 100, 900 and 950 permille. -/
theorem test_captureRanges : ready.captureValue .height 1000 (some 50) = some 0
    ∧ ready.captureValue .height 999 (some 500) = none ∧ ready.captureValue .height 10001 (some 5000) = none
    ∧ ready.captureValue .height 10000 (some 9000) = some 1200 ∧ ready.captureValue .tilt 1000 (some 950) = some 1050
    ∧ ready.captureValue .tilt 1000 none = none ∧ ready.captureValue .pressure 190 none = some 400 := by decide +kernel

/-! ### Witnesses: device -/

theorem witness_StartupEnds : let s := { State.reset with device := { resetDevice with startup := some 100000 } }
    s.pins.resetbLow = false ∧ s.device.state = .startup ∧ s.device.startup = some 100000 := by decide +kernel

/-- R77, R145 and R50 at the end of STARTUP: a VALID channel with a flag, an INVALID one with three bad captures, and ESTOP. -/
theorem test_startupPosts : let s := { (inState .startup).setInput .estop (settledAt true) with
      captures := ⟨[{ steady 300 with lostFlag := true }, { steady 300 with valid := false, window := [], bad := 3 },
        { steady 85 with valid := false, window := [85], rangeFlag := true }], rfl⟩ }
    s.endStartup.agenda = [.conditionEnd .sensorLost (.sensor .height), .occurrence .sensorRange (.sensor .tilt),
        .occurrence .estop .none, .hatchMoved .kerbside, .hatchMoved .offside]
      ∧ (s.endStartup.capture .tilt).rangeFlag = true ∧ (s.endStartup.capture .pressure).rangeFlag = true
      ∧ s.endStartup.device.estopFlag = true := by decide +kernel

/-- A sample is due, with a window. -/
def sampling (w : List Nat) : State := { ready with supply := ⟨w, .normal, true, some 10000, some 0⟩ }

/-- A window that fills at its eighth sample, at exactly 16,000 mV and just below. -/
theorem witness_BatterySamples : (sampling []).pins.resetbLow = false ∧ (sampling []).supply.sampleTimer = some 10000
    ∧ (sampling []).supply.window.length ≤ 8 ∧ (sampling (List.replicate 8 16000)).supply.window.length ≤ 8
    ∧ ([] ++ [24000] : List Nat).length < 8
    ∧ (List.replicate 7 16000 ++ [15999]).length = 8 ∧ (List.replicate 7 16000 ++ [15999]).sum / 8 < 16000
    ∧ 16000 ≤ (List.replicate 7 16000 ++ [16000]).sum / 8
    ∧ ((List.replicate 8 16000).drop 1 ++ [16000]).length = 8 := by decide +kernel

/-- The zones at their boundaries, and each first and later definition. -/
theorem witness_BatterySamples_zones : [19499, 19500, 21999, 22000].map firstZone = [.low, .sag, .sag, .normal]
    ∧ [19499, 19500, 21999, 22000].map (nextZone .normal) = [.low, .sag, .sag, .normal]
    ∧ [19499, 19500, 22499, 22500].map (nextZone .sag) = [.low, .sag, .sag, .normal]
    ∧ [19999, 20000, 22499, 22500].map (nextZone .low) = [.low, .sag, .sag, .normal]
    ∧ ready.supply.defined = true ∧ ready.supply.zone = .normal ∧ Zone.sag ≠ .low
    ∧ ({ ready with supply := { ready.supply with zone := .low } } : State).supply.zone = .low
    ∧ State.reset.supply.defined = false := by decide +kernel

theorem witness_SlowTimers : ready.pins.resetbLow = false
    ∧ ({ ready with supply := { ready.supply with clockTimer := some 1000 } } : State).supply.clockTimer = some 1000
    ∧ configuring.device.state = .config
    ∧ ({ configuring.device with ownerIdle := some 30000000 } : Device).ownerIdle = some 30000000
    ∧ dozing.device.dormancy = some 600000000 ∧ 60000000 * dozing.tables.timing.dormancy ≤ 600000000
    ∧ dozing.finish.mayDoze = true := by decide +kernel

/-- What keeps a part at its dormancy delay awake: a motion, a lamp's demand, the ignition. -/
theorem witness_SlowTimers_awake : (dozing.mayDoze = true)
    ∧ (∀ s ∈ [dozing.setSlot .lift (heldBy 1 .waiting .ret (dozing.slot .lift)),
        dozing.setLamp 0 { dozing.lamp 0 with motion := .trail },
        { dozing with permit := { dozing.permit with conds := dozing.permit.conds.set Cond.ignitionOn.ix true } },
        dozing.setDeviceState .config, ready], s.mayDoze = false) := by decide +kernel

theorem witness_WakesBeginStartup : asleep.pins.resetbLow = false ∧ asleep.device.state = .dormant
    ∧ (asleep.link 0).role ≠ .absent
    ∧ ({ asleep.device with ignWatch := some 20000 } : Device).ignWatch = some 20000
    ∧ ({ asleep.device with wakeDrive := some 100000 } : Device).wakeDrive = some 100000 := by decide +kernel

theorem witness_WakesBeginStartup_captures : (asleep.capture .height).openPeriod = none
    ∧ asleep.pins.resetbLow = false := by decide +kernel

theorem witness_StopAllAndResume : ready.admits 2 everyRole ∧ ready.awake = true ∧ (inState .config).awake = true
    ∧ (inState .stopped).admits 1 cabRearService ∧ (inState .stopped).device.state = .stopped
    ∧ (inState .stopped).deasserted .estop = true ∧ (inState .stopped).cond .standstill = true
    ∧ ((inState .stopped).setInput .estop (settledAt true)).deasserted .estop = false
    ∧ ready.admits 1 cabRearService ∧ ready.device.state = .ready := by unfold State.admits; decide +kernel

theorem witness_StopAllAndResume_refusals : State.reset.admits 2 everyRole ∧ State.reset.awake = false
    ∧ ready.admits 2 everyRole ∧ ([0] : List Byte) ≠ [] ∧ (inState .config).admits 1 cabRearService
    ∧ (inState .config).device.state ≠ .stopped ∧ (inState .config).device.state ≠ .ready := by
  unfold State.admits; decide +kernel

/-- A part that rolls with a hatch open, one that rolls stowed and shut, and slots and contexts of each kind. -/
theorem witness_StopAllAndResume_slots :
    ((rolling false).device.state = .ready ∧ (rolling false).cond .standstill = false
      ∧ (rolling false).hatchPos .kerbside ≠ .shut)
    ∧ ((rolling true).cond .stowed = true ∧ (rolling true).slotsIdle = true
      ∧ ∀ h ∈ [Hatch.kerbside, .offside], (rolling true).hatchPos h = .shut)
    ∧ (ready.slot .lift).state = .idle ∧ ((withSlot .khatch (watching 2 .blocked)).slot .khatch).state = .blocked
    ∧ (timedOut.slot .khatch).state = .settling
    ∧ ((withSlot .lift (ownedBy (.ctx 1) .running .ret)).slot .lift).owner = some (.ctx 1)
    ∧ (waiting.context 0).state ≠ .idle ∧ (waiting.context 1).state = .idle := by decide +kernel

theorem witness_StopAllAndResume_supply : runningHatch.SupplyAgrees :=
  supplyAgrees_of (by decide +kernel) (by decide +kernel)

theorem witness_WhatMakesReady : (inState .stopped).device.state ≠ .ready
    ∧ ∃ t, exec (.resume 0 1 []) (inState .stopped) = .next t ∧ t.device.state = .ready :=
  ⟨by decide +kernel, _, rfl, by decide +kernel⟩

/-! ### Witnesses: sequences -/

/-- `waiting` with a second run. -/
def bothRun : State := after (.seqStart 1 2 [0]) waiting

theorem witness_SequencesStart : indexOfByte 8 0 = some (0 : Fin 8)
    ∧ (∀ s ∈ [{ ready with tables := waitTables }, waiting, bothRun],
        s.takesFrame 1 = true ∧ cabRear.allows (s.link 1).role = true ∧ s.device.state = .ready
          ∧ (s.tables.entries.get 0).first = some 0)
    ∧ (ready.context 0).state = .idle ∧ (waiting.context 0).state ≠ .idle ∧ (waiting.context 1).state = .idle
    ∧ (bothRun.context 0).state ≠ .idle ∧ (bothRun.context 1).state ≠ .idle := by decide +kernel

/-- A step of each kind at the number a run stands at, and the 65th start. -/
def motionStep : MotionStep := ⟨.ohatch, .powered, none, 600, none, some 1, none⟩
def stepping (r : StepRecord) (started : Nat) : State :=
  let s := waiting.setContext 0 { waiting.context 0 with started := started }
  { s with tables := { s.tables with steps := s.tables.steps.set 0 r } }

theorem witness_SequencesStart_steps : ((ready.context 0).state ≠ .active)
    ∧ ((stepping .empty 64).context 0).state = .active ∧ ((stepping .empty 63).context 0).state = .active
    ∧ 64 ≤ ((stepping .empty 64).context 0).started ∧ ((stepping .empty 63).context 0).started < 64
    ∧ (waiting.setDeviceState .stopped).device.state ≠ .ready
    ∧ ((stepping (.motion motionStep) 1).context 0).step = some 0
    ∧ (stepping (.motion motionStep) 1).tables.steps.get 0 = .motion motionStep
    ∧ waiting.tables.steps.get 0 = .wait ⟨CondSet.of fun c => decide (c = .gate0), 10, none, none⟩
    ∧ waiting.cond .gate0 = false ∧ (stepping .empty 1).tables.steps.get 0 = .empty
    ∧ (let w : WaitStep := ⟨CondSet.of fun c => decide (c = .parked), 10, none, none⟩;
        (stepping (.wait w) 1).tables.steps.get 0 = .wait w
          ∧ ∀ n ∈ Cond.all, w.mask.has n = true → (stepping (.wait w) 1).cond n = true)
    ∧ motionStep.next = some 1 ∧ motionStep.onFail = none := by decide +kernel

/-- The answers a step's post gets: accepted, at its limit, busy and refused, and where the run goes then. -/
theorem test_postAnswers : (ready.postMotion 0 motionStep).1 = .accepted
    ∧ (ready.postMotion 0 { motionStep with stroke := .ret }).1 = .atLimit
    ∧ ((withSlot .ohatch (watching 1 .blocked)).postMotion 0 motionStep).1 = .busy
    ∧ ((inState .stopped).postMotion 0 motionStep).1 = .refusedState
    ∧ (ready.postMotion 0 { motionStep with actuator := .tilt }).1 = .badParam
    ∧ ((ready.takeAnswer 0 .busy).context 0).phase = .slotBusy
    ∧ ((ready.takeAnswer 0 .clamped).context 0).phase = .inMotion := by decide +kernel

/-- The run of `waiting`, paused, and not held. -/
def paused : State := after (.sequenceLapse 0) (waitingAt (some 5) (some 200000))
def unheld : State := waiting.setContext 0 { waiting.context 0 with held := false, holdTimer := none }

theorem witness_SequenceHolds : indexOfByte 2 0 = some (0 : Ctx)
    ∧ (∀ s ∈ [ready, waiting, unheld, paused],
        s.takesFrame 1 = true ∧ cabRear.allows (s.link 1).role = true ∧ s.device.state = .ready)
    ∧ (ready.context 0).state = .idle ∧ (waiting.context 0).owner = some 1 ∧ (waiting.context 0).state = .active
    ∧ (waiting.context 0).held = true ∧ (unheld.context 0).owner = some 1 ∧ (unheld.context 0).state = .active
    ∧ (unheld.context 0).held = false ∧ (paused.context 0).owner = some 1 ∧ (paused.context 0).state = .paused
    ∧ (waiting.context 0).owner ≠ some 0 := by decide +kernel

theorem witness_SequenceCancels : indexOfByte 2 0 = some (0 : Ctx) ∧ waiting.admits 0 cabRear ∧ waiting.admits 1 cabRear
    ∧ waiting.device.state = .ready ∧ (waiting.context 0).state ≠ .idle ∧ (waiting.context 0).owner = some 1
    ∧ (waiting.link 0).role = .cab ∧ ready.admits 1 cabRear ∧ ready.device.state = .ready ∧ (ready.context 0).state = .idle
    ∧ (let s := waiting.setContext 0 { waiting.context 0 with owner := some 2 };
        (s.context 0).owner ≠ some 1 ∧ (s.link 1).role ≠ .cab) := by unfold State.admits; decide +kernel

theorem witness_SequenceCancels_refusals : (inState .unconfigured).admits 0 cabRear
    ∧ (inState .unconfigured).device.state ≠ .ready ∧ ready.admits 1 cabRear ∧ ready.device.state = .ready
    ∧ indexOfByte 8 7 = some (7 : Fin 8) ∧ (ready.tables.entries.get 7).first = none ∧ indexOfByte 8 8 = none
    ∧ indexOfByte 2 2 = none := by unfold State.admits; decide +kernel

theorem witness_SequenceTimers : ready.pins.resetbLow = false ∧ waiting.stepLimit 0 = 1000000
    ∧ (let r := (waitingAt (some 1000000) (some 0)).context 0;
        r.state = .active ∧ r.stepTimer = some 1000000 ∧ r.phase ≠ .inMotion)
    ∧ (let s := waiting.setContext 0 { waiting.context 0 with stepTimer := some 1000000, phase := .inMotion };
        (s.context 0).phase = .inMotion ∧ s.stepLimit 0 ≤ 1000000)
    ∧ ((waitingAt (some 5) (some 200000)).context 0).holdTimer = some 200000 ∧ 10000 * waiting.tables.timing.refresh ≤ 200000
    ∧ (paused.context 0).state = .paused
    ∧ ((paused.setContext 0 { paused.context 0 with pauseTimer := some 10000000 }).context 0).pauseTimer = some 10000000 := by
  decide +kernel

/-- A run in motion whose slot it owns, one whose slot it does not, one that waits for a slot, and one whose mask passes. -/
def moving (phase : Phase) : State :=
  let s := stepping (.motion motionStep) 1
  (s.setContext 0 { s.context 0 with phase := phase }).setSlot .ohatch (ownedBy (.ctx 0) .running .powered (s.slot .ohatch))

theorem witness_SequenceTimers_reports : ((moving .inMotion).context 0).state = .active
    ∧ ((moving .inMotion).context 0).phase = .inMotion ∧ (moving .inMotion).stepActuator 0 = some .ohatch
    ∧ ((moving .inMotion).slot .ohatch).owner = some (.ctx 0) ∧ ((stepping (.motion motionStep) 1).slot .ohatch).owner ≠ some (.ctx 0)
    ∧ (moving .slotBusy).waitsForSlot 0 .ohatch = true ∧ (moving .slotBusy).waitsForSlot 1 .ohatch = false
    ∧ (moving .inMotion).waitsForSlot 0 .ohatch = false ∧ Ending.lapsed ≠ .stopped ∧ Ending.lapsed ≠ .reached
    ∧ (moving .inMotion).stepLimit 0 = 60000000 ∧ waiting.stepActuator 0 = none
    ∧ (waiting.context 0).phase = .conditions ∧ (waiting.context 0).step = some 0
    ∧ (let w : WaitStep := ⟨CondSet.of fun c => decide (c = .parked), 10, none, none⟩;
        ((stepping (.wait w) 1).context 0).phase = .conditions ∧ w.mask.has .parked = true
          ∧ ∀ n ∈ Cond.all, w.mask.has n = true → (stepping (.wait w) 1).cond n = true) := by decide +kernel

/-- R105: a step that waits for the slot of an earlier run's motion starts when that motion's run-down ends, and the end is
not reported to it. -/
theorem test_reportOfAnEarlierRun :
    let s := moving .slotBusy
    let t := after (.runDownEnd .ohatch) (s.setSlot .ohatch { resetSlot with
      state := .settling, stroke := some .powered, outcome := .cancelled, endClass := some .normal, reportTo := some 0
      runDown := some 100000 })
    (t.context 0).state = .active ∧ (t.context 0).phase = .inMotion ∧ (t.context 0).step = (s.context 0).step
      ∧ (t.slot .ohatch).owner = some (.ctx 0) := by decide +kernel

/-! ### Witnesses: lamps and drivers -/

theorem witness_SwitchingRequests : lampOrderOfBytes [0, 1, 15, 1, 5, 40] = some ⟨0, 15, true, some ⟨5, 40⟩⟩
    ∧ lampOrderOfBytes [0, 1, 0, 0, 0, 40] = some ⟨0, 0, false, some ⟨0, 40⟩⟩
    ∧ lampOrderOfBytes [0, 1, 0, 0, 6, 0] = some ⟨0, 0, false, some ⟨6, 0⟩⟩ ∧ ready.admits 2 cabRearKerb
    ∧ ready.servesLamps = true ∧ ready.mapped (lampFunc 0) = true ∧ clearedLamp [3, 0] = some 3
    ∧ outputOfBytes [10, 1] = some (.aux0, true) ∧ outputOfBytes [11, 0] = some (.aux1, false)
    ∧ ready.admits 0 cabService ∧ ready.awake = true ∧ ready.mapped .aux0 = true := by
  unfold State.admits; decide +kernel

/-- Orders that are refused, and one for a lamp under MANUAL and one that is not. -/
theorem witness_SwitchingRequests_refusals : lampOrderOfBytes [0, 1, 1, 1, 6, 0] = some ⟨0, 1, true, some ⟨6, 0⟩⟩
    ∧ lampOrderOfBytes [2, 1, 0, 1, 6, 40] = some ⟨2, 0, true, some ⟨6, 40⟩⟩ ∧ ready.mapped (lampFunc 2) = false
    ∧ lampOrderOfBytes [4, 1, 0, 1] = none ∧ lampOrderOfBytes [0, 1, 16, 1] = none ∧ clearedLamp [4, 0] = none
    ∧ outputOfBytes [11, 1] = some (.aux1, true) ∧ ready.mapped .aux1 = false ∧ outputOfBytes [9, 1] = none
    ∧ configuring.admits 1 cabRearKerb ∧ configuring.servesLamps = false ∧ State.reset.admits 0 cabService
    ∧ State.reset.awake = false ∧ (ready.lamp 0).cls ≠ .manual := by unfold State.admits; decide +kernel

/-- R119, R122: a new demand under MANUAL restarts the pattern in its start phase, with the proving under way kept while lit. -/
theorem test_lampSet_restarts : let s := after (.lampSet 0 1 [0, 1, 0, 1, 6, 40]) ready
    let lit := s.setLamp 0 { s.lamp 0 with phaseTimer := some 7, prove := some 7 }
    (s.lamp 0).cls = .manual ∧ ((after (.lampSet 0 1 [0, 1, 3, 1, 9, 9]) lit).lamp 0).prove = some 7
      ∧ ((after (.lampSet 0 1 [0, 1, 3, 1, 9, 9]) lit).lamp 0).phaseTimer = some 0
      ∧ ((after (.lampSet 0 1 [0, 1, 3, 0, 9, 9]) lit).lamp 0).phaseOn = false
      ∧ ((after (.lampSet 0 1 [0, 1, 3, 0, 9, 9]) lit).lamp 0).prove = none := by decide +kernel

/-- LAMP0 in the last ON phase of a burst, which ends now. -/
def lastBurst : State :=
  let s := after (.lampSet 0 1 [0, 1, 1, 1, 6, 40]) ready
  s.setLamp 0 { s.lamp 0 with phaseTimer := some 60000 }

theorem witness_LampTimers : lastBurst.pins.resetbLow = false ∧ (lastBurst.lamp 0).phaseTimer = some 60000
    ∧ lastBurst.phaseDuration 0 ≤ 60000 ∧ (lastBurst.lamp 0).manual = some ⟨⟨6, 40⟩, 1, true⟩
    ∧ (lastBurst.lamp 0).phaseOn = true ∧ (lastBurst.lamp 0).cls = .manual
    ∧ (let s := ready.setLamp 1 { ready.lamp 1 with motion := .trail, trailTimer := some 3000000 };
        (s.lamp 1).motion = .trail ∧ (s.lamp 1).trailTimer = some 3000000
          ∧ 1000 * max (s.lampCfg 1).trail s.tables.timing.trailBase ≤ 3000000)
    ∧ ((ready.setLamp 1 { ready.lamp 1 with lead := some 500000 }).lamp 1).lead = some 500000
    ∧ 1000 * ready.tables.timing.lead ≤ 500000 := by decide +kernel

/-- The phases that count a burst and those that do not, and the class of each lamp. -/
theorem witness_LampTimers_phases : (primingHatch.lamp 1).cls = .motion ∧ (primingHatch.lamp 1).phaseOn = true
    ∧ (let s := ready.setLamp 0 { ready.lamp 0 with cls := .fault };
        (s.lamp 0).cls = .fault ∧ (s.lamp 0).phaseOn = false)
    ∧ (∃ m, (lastBurst.lamp 0).manual = some m ∧ 0 < m.bursts) ∧ (ready.lamp 0).cls = .none :=
  ⟨by decide +kernel, by decide +kernel, by decide +kernel, ⟨⟨⟨6, 40⟩, 1, true⟩, by decide +kernel⟩, by decide +kernel⟩

/-- A slot whose priming test passes, with and without the contact, and the two lifts that enter RUNNING. -/
def primed (contact : Bool) : State :=
  { primingHatch.setInput .pumprun (settledAt (!contact)) with
    lamps := primingHatch.lamps.map fun r => { r with lead := some 500000, proven := .proven } }
def priming (a : Actuator) (k : Stroke) (target pressure : Nat) : State :=
  (withSlot a fun r => { heldBy 1 .priming k r with target := some target }).setCapture .pressure (steady pressure)

theorem witness_LampTimers_priming : ((primed true).slot .khatch).state = .priming
    ∧ (primed true).asserted .pumprun = true ∧ (primed false).asserted .pumprun = false
    ∧ (∀ n ∈ [(0 : Lamp), 1, 2, 3], ((primed true).lamp n).lead = some 500000 ∧ ((primed true).lamp n).proven = .proven)
    ∧ 1000 * (primed true).tables.timing.lead = 500000
    ∧ ((primed true).primeTestOf .khatch).slot .khatch ≠ (primed true).slot .khatch
    ∧ ((primed false).primeTestOf .khatch).slot .khatch = (primed false).slot .khatch
    ∧ ((priming .lift .ret 0 85).slot .lift).stroke = some .ret
    ∧ (priming .lift .powered 305 180).endTest .lift .powered 305 = true
    ∧ (priming .lift .powered 306 180).endTest .lift .powered 306 = false
    ∧ (priming .lift .powered 306 180).tables.profile.pover ≤ ((priming .lift .powered 306 180).capture .pressure).reported
    ∧ ¬((priming .lift .powered 306 179).tables.profile.pover ≤ ((priming .lift .powered 306 179).capture .pressure).reported)
    ∧ (priming .tilt .powered 311 85).endTest .tilt .powered 311 = false
    ∧ ((withSlot .lift (heldBy 1 .running .powered)).slot .lift).state = .running := by decide +kernel

/-- LAMP1 lit at its proving, with a result of the last one. -/
def proving (p : Proven) : State :=
  primingHatch.setLamp 1 { primingHatch.lamp 1 with prove := some 50000, proven := p }

theorem witness_LampsAreProven : (proving .unknown).pins.resetbLow = false
    ∧ (∀ p ∈ [Proven.unknown, .proven, .failed], ((proving p).lamp 1).lit = true
        ∧ ((proving p).lamp 1).prove = some 50000 ∧ (proving p).Carries 7 (lampFunc 1)
        ∧ ((proving p).chan 7).driven = true ∧ ((proving p).lamp 1).proven = p) := by unfold State.Carries; decide +kernel

/-- `proving .unknown` with LAMP1 mapped nowhere. -/
def provingUnmapped : State :=
  let s := proving .unknown
  { s with tables := { s.tables with outputMap := s.tables.outputMap.set 7 none } }

theorem witness_LampsAreProven_unmapped : let s := provingUnmapped
    s.pins.resetbLow = false ∧ (s.lamp 1).lit = true ∧ (s.lamp 1).prove = some 50000
      ∧ ∀ c, s.tables.outputMap.get c ≠ some (lampFunc 1) := by decide +kernel

/-- OUT1 at its open-load test. -/
def testing (r : ChanRec) : State := primingHatch.setChan 1 r

theorem witness_ChannelTests : primingHatch.pins.resetbLow = false
    ∧ ((testing ⟨.on, 0, 0, some 50000, none, false⟩).chan 1).prove = some 50000
    ∧ ((testing ⟨.pwm, 300, 300, some 50000, some 1499, true⟩).chan 1).driven = true
    ∧ ((testing ⟨.pwm, 300, 300, some 50000, some 1500, true⟩).chan 1).driven = false
    ∧ ((testing ⟨.pwm, 300, 300, some 50000, some 5000, true⟩).chan 1).period = some 5000
    ∧ (primingHatch.chan 1).driven = true ∧ (primingHatch.chan 3).driven = false := by decide +kernel

/-- Full duty is driven to the end of its period (R135), 999 permille is not, and a short there trips the channel. -/
theorem test_fullDuty : ((testing ⟨.pwm, 1000, 1000, none, some 5000, false⟩).chan 1).driven = true
    ∧ ((testing ⟨.pwm, 999, 999, none, some 4994, false⟩).chan 1).driven = true
    ∧ ((testing ⟨.pwm, 999, 999, none, some 4995, false⟩).chan 1).driven = false
    ∧ ((after (.shortTrip 0 8001) ({ lowering 400 0 85 24000 300 with profile := ⟨1000, some 0, none⟩ }.setChan 0
        ⟨.pwm, 1000, 1000, none, some 5000, false⟩)).chan 0).drive = .tripped := by decide +kernel

/-! ### Witnesses: faults and configuration -/

/-- Three entries: a CLEARED one, an ACTIVE one and an acknowledged ACTIVE one. -/
def threeEntries : State := ready.setEntries [⟨.lampOpen, .lamp 0, false, false, 255⟩, ⟨.estop, .none, true, false, 1⟩,
  ⟨.sensorLost, .sensor .height, true, true, 2⟩]

/-- A full table of blocking entries. -/
def fullTable : State := ready.setEntries (List.map (fun e : FaultKind × Subject => ⟨e.1, e.2, e.1.isCondition, false, 1⟩)
  (Sensor.all.map (fun m => (.sensorRange, .sensor m)) ++ Sensor.all.map (fun m => (.sensorLost, .sensor m))
    ++ [(.hatchSwitch, .actuator .khatch), (.hatchSwitch, .actuator .ohatch), (.driverOpen, .chan 0), (.driverOpen, .chan 1)]
    ++ ([0, 1, 2, 3, 4, 5] : List Chan).map fun c => (.driverShort, .chan c)))

theorem threeEntries_sound : threeEntries.faults.Sound := by unfold FaultTable.Sound; decide +kernel

theorem witness_Acknowledgements : ready.admits 0 cabService ∧ ready.awake = true
    ∧ ackOfBytes [8, 0] = some (.lampOpen, .lamp 0) ∧ threeEntries.faults.Sound :=
  ⟨by unfold State.admits; decide +kernel, by decide +kernel, by decide +kernel, threeEntries_sound⟩

/-- An entry that is CLEARED and one that is not, and refusals. -/
theorem witness_Acknowledgements_refusals : (∃ e ∈ threeEntries.faults.entries,
      e.isFor .lampOpen (.lamp 0) = true ∧ e.active = false)
    ∧ (¬∃ e ∈ threeEntries.faults.entries, e.isFor .estop .none = true ∧ e.active = false)
    ∧ State.reset.admits 0 cabService ∧ State.reset.awake = false ∧ ackOfBytes [8, 4] = none ∧ ackOfBytes [0x10, 0] = none := by
  unfold State.admits; decide +kernel

/-- A removal: the CLEARED entry of a FAILED lamp, and a TRIPPED channel and a lamp without entries of
their own under the full flag. -/
def removable : State :=
  let s := ((ready.setEntries [⟨.lampOpen, .lamp 0, false, true, 1⟩]).setLamp 0 { ready.lamp 0 with proven := .failed }).setChan 3
    ⟨.tripped, 0, 0, none, none, false⟩
  { s with faults := { s.faults with full := true } }

theorem witness_Acknowledgements_removal :
    (⟨.lampOpen, .lamp 0, false, true, 1⟩ : FaultEntry) ∈ removable.faults.entries
    ∧ FaultEntry.isFor ⟨.lampOpen, .lamp 0, false, true, 1⟩ .lampOpen (.lamp 0) = true
    ∧ (removable.lamp 0).proven = .failed ∧ (removable.lamp 1).proven ≠ .failed
    ∧ (removable.chan 3).drive = .tripped ∧ (removable.chan 1).drive ≠ .tripped ∧ removable.faults.full = true
    ∧ (∀ e ∈ removable.faults.entries, e.isFor .driverShort (.chan 3) = false) := by decide +kernel

theorem witness_ConditionsEnd : threeEntries.faults.Sound
    ∧ (⟨.estop, .none, true, false, 1⟩ : FaultEntry) ∈ threeEntries.faults.entries
    ∧ FaultEntry.isFor ⟨.estop, .none, true, false, 1⟩ .estop .none = true
    ∧ (⟨.sensorLost, .sensor .height, true, true, 2⟩ : FaultEntry) ∈ threeEntries.faults.entries
    ∧ FaultEntry.isFor ⟨.sensorLost, .sensor .height, true, true, 2⟩ .sensorLost (.sensor .height) = true
    ∧ (⟨.lampOpen, .lamp 0, false, false, 255⟩ : FaultEntry) ∈ threeEntries.faults.entries
    ∧ FaultEntry.isFor ⟨.lampOpen, .lamp 0, false, false, 255⟩ .lampOpen (.lamp 0) = true
    ∧ ∀ e ∈ threeEntries.faults.entries, e.isFor .pumpStuck .none = false :=
  ⟨threeEntries_sound, by decide +kernel⟩

theorem witness_OccurrencesAreRecorded : threeEntries.hasEntry .lampOpen (.lamp 0) = true
    ∧ threeEntries.hasEntry .pumpStuck .none = false ∧ threeEntries.faults.entries.length < 16
    ∧ fullTable.hasEntry .overload (.actuator .lift) = false ∧ fullTable.faults.entries.length = 16
    ∧ fullTable.evictable = none := by decide +kernel

/-- Sixteen entries of which the second is CLEARED and the third ACTIVE, and neither covers a stroke. -/
def crowded (cleared : Bool) : State := fullTable.setEntries
  ((fullTable.faults.entries.take 1) ++ [⟨.runTimeout, .actuator .lift, !cleared, false, 1⟩, ⟨.estop, .none, true, false, 1⟩]
    ++ fullTable.faults.entries.drop 3)

/-- The oldest CLEARED entry goes, or without one the oldest ACTIVE one. -/
theorem test_eviction : (crowded true).faults.entries.length = 16 ∧ (crowded true).hasEntry .overload (.actuator .lift) = false
    ∧ ((crowded true).takeOccurrence .overload (.actuator .lift)).faults.entries
      = (fullTable.faults.entries.take 1) ++ [⟨.estop, .none, true, false, 1⟩] ++ fullTable.faults.entries.drop 3
        ++ [⟨.overload, .actuator .lift, false, false, 1⟩]
    ∧ ((crowded false).takeOccurrence .overload (.actuator .lift)).faults.entries
      = (fullTable.faults.entries.take 1) ++ [⟨.estop, .none, true, false, 1⟩] ++ fullTable.faults.entries.drop 3
        ++ [⟨.overload, .actuator .lift, false, false, 1⟩]
    ∧ (fullTable.takeOccurrence .overload (.actuator .lift)).faults = ⟨fullTable.faults.entries, true⟩ := by decide +kernel

theorem witness_ConfigEntersAndCommits : (inState .unconfigured).admits 0 cabService
    ∧ (inState .unconfigured).device.state = .unconfigured ∧ ready.admits 3 cabService ∧ ready.device.state = .ready
    ∧ ready.slotsIdle = true ∧ ready.contextsIdle = true ∧ runningHatch.admits 0 cabService
    ∧ runningHatch.device.state = .ready ∧ runningHatch.slotsIdle = false ∧ waiting.contextsIdle = false
    ∧ configuring.admits 0 cabService ∧ configuring.device.state = .config ∧ configuring.device.owner = some 0
    ∧ configuring.tables.commitFailure = none
    ∧ ({ configuring.tables with profile := { configuring.tables.profile with umin := 900 } } : Tables).commitFailure
      = some (5, 0) := by unfold State.admits; decide +kernel

theorem witness_ConfigEntersAndCommits_refusals : (inState .stopped).admits 0 cabService
    ∧ ¬((inState .stopped).device.state = .unconfigured ∨ (inState .stopped).device.state = .ready)
    ∧ ready.admits 0 cabService ∧ ([0] : List Byte) ≠ [] ∧ ready.device.state ≠ .config ∧ configuring.admits 3 cabService
    ∧ configuring.device.owner ≠ some 3 ∧ configuring.device.owner = some 0 := by unfold State.admits; decide +kernel

/-- Tables that fail each check in its turn, and none. -/
theorem witness_ConfigEntersAndCommits_checks :
    (let t := configuring.tables
    let dangling : StepRecord := .motion ⟨.ohatch, .powered, none, 600, none, some 1, none⟩
    ({ t with outputMap := t.outputMap.set 8 (some .pump) } : Tables).commitFailure = some (1, 8)
      ∧ ({ t with outputMap := (t.outputMap.set 0 none).set 4 (some .lower) } : Tables).commitFailure = some (1, 4)
      ∧ ({ t with outputMap := (t.outputMap.set 0 none).set 3 (some .lower) } : Tables).commitFailure = none
      ∧ ({ t with profile := { t.profile with umin := 900 } } : Tables).commitFailure = some (5, 0)
      ∧ ({ t with scaling := { t.scaling with hbed := 1201 } } : Tables).commitFailure = some (4, 0)
      ∧ ({ t with scaling := { t.scaling with hbed := 1200 } } : Tables).commitFailure = none
      ∧ ({ t with steps := t.steps.set 31 dangling } : Tables).commitFailure = some (7, 31)
      ∧ ({ t with entries := t.entries.set 7 ⟨some 31, true⟩ } : Tables).commitFailure = some (8, 7)
      ∧ ({ t with steps := t.steps.set 1 (.motion ⟨.tilt, .powered, none, 600, none, none, none⟩) } : Tables).commitFailure
        = some (7, 1)) := by decide +kernel

theorem witness_ConfigWrites : configuring.admits 0 cabService ∧ configuring.device.state = .config
    ∧ configuring.device.owner = some 0
    ∧ Record.ofBytes 9 0 [50, 0x07, 0xD1, 0, 0, 0x03, 0xE8, 10] = some (.timing ⟨50, 2001, 0, 1000, 10⟩)
    ∧ Record.ofBytes 1 11 [0x0F] = some (.outputMap 11 none) := by unfold State.admits; decide +kernel

/-- A parameter list too short to name a record, and ones whose table, index or value is none. -/
theorem witness_ConfigWrites_refusals : ready.admits 0 cabService ∧ ready.device.state ≠ .config
    ∧ configuring.admits 3 cabService ∧ configuring.device.owner ≠ some 3 ∧ Record.ofBytes 0 0 [0] = none
    ∧ Record.ofBytes 1 12 [0] = none ∧ Record.ofBytes 1 0 [] = none := by unfold State.admits; decide +kernel

/-- Values at and beyond the ends of their ranges. -/
theorem test_ranges : Record.clamp (.policy 0 ⟨8, true, true, 0, CondSet.empty⟩) = .policy 0 ⟨7, true, true, 1, CondSet.empty⟩
    ∧ Record.clamp (.scaling ⟨299, 2501, 300, 1800, 1, 51⟩) = .scaling ⟨300, 2500, 300, 1800, 2, 50⟩
    ∧ Record.clamp (.profile ⟨99, 1001, 20, 41, 4, 200, 351⟩) = .profile ⟨100, 1000, 20, 40, 5, 200, 350⟩
    ∧ Record.clamp (.timing ⟨9, 2001, 10000, 199, 61⟩) = .timing ⟨10, 2000, 10000, 200, 60⟩
    ∧ Record.clamp (.step 0 (.motion ⟨.lift, .ret, some 2501, 0, none, none, none⟩))
      = .step 0 (.motion ⟨.lift, .ret, some 2500, 1, none, none, none⟩) := by decide +kernel

/-- Forms of the written records: a hatch's step, a lamp in force and one that is not, and a new bias and polarity. -/
theorem witness_ConfigWrites_blocks : Actuator.ohatch.hatch? ≠ none ∧ motionStep.target = none
    ∧ (configuring.lamp 1).cls = .none ∧ (primingHatch.lamp 1).cls = .motion
    ∧ (configuring.setup .park).bias ≠ .none ∧ (configuring.setup .park).polarity ≠ .activeHigh
    ∧ (configuring.input .park).debounced ≠ none := by decide +kernel

/-- R133: two entries that name AUX0 map it to no channel, and OUTPUT is not configured. -/
theorem test_output_doubled : reply 0 (after (.output 0 1 [10, 1]) { ready with
    tables := { ready.tables with outputMap := ready.tables.outputMap.set 11 (some .aux0) } }) = some .notConfigured := by
  decide +kernel

/-- The tables change by a write in CONFIG, which does not bring the defaults, and by a reset. -/
theorem witness_TablesStand :
    (∃ t, exec (.configWrite 0 1 [1, 11, 11]) configuring = .next t ∧ t.tables ≠ configuring.tables ∧ t.tables ≠ defaultTables)
      ∧ ∃ t, exec .powerOnReset configuring = .next t ∧ t.tables ≠ configuring.tables ∧ t.device.state = .startup :=
  ⟨⟨_, rfl, by decide +kernel, by decide +kernel⟩, _, rfl, by decide +kernel, by decide +kernel⟩

/-! ### Witnesses: invariants of every step -/

/-- `primingHatch` with a command at the front of its queue that ends its motion. -/
def queued : State := { primingHatch with pending := [.stopAll 0 1 []] }

theorem slotSound_idle {r : Slot} (h : r.state = .idle ∧ r.stroke = none ∧ r.holders.isEmpty = true ∧ r.owner = none
    ∧ r.watch.isEmpty = true) : r.Sound := by
  unfold Slot.Sound; rw [h.1]; exact h.2

theorem slotSound_priming {r : Slot} (h : r.state = .priming ∧ r.stroke ≠ none ∧ r.holders.isEmpty = false
    ∧ r.owner = none) : r.Sound := by
  unfold Slot.Sound; rw [h.1]; exact ⟨h.2.1, .inr h.2.2⟩

theorem witness_StepKeepsTheSupply : queued.SupplyAgrees ∧ queued.SlotsSound ∧ queued.RestsUnlessReady
    ∧ ∃ t, step queued = .next t :=
  ⟨supplyAgrees_of (by decide +kernel) (by decide +kernel),
    everyActuator (slotSound_idle (by decide +kernel)) (slotSound_idle (by decide +kernel))
      (slotSound_priming (by decide +kernel)) (slotSound_idle (by decide +kernel)),
    fun h => absurd (by decide +kernel) h, ⟨_, rfl⟩⟩

theorem witness_StepKeepsTheRecords : (∃ t, step { threeEntries with pending := [.ackAll 0 1] } = .next t)
    ∧ threeEntries.faults.Sound ∧ threeEntries.CapturesSound :=
  ⟨⟨_, rfl⟩, threeEntries_sound, by intro m; unfold Capture.Sound; cases m <;> decide +kernel⟩

/-- A part that has been stopped in a motion: the cutoff is in force. -/
def stopped : State := { after (.stopAll 1 1 []) runningHatch with pending := [.resume 0 1 []] }

theorem witness_StepKeepsTheStop : (∃ t, step stopped = .next t) ∧ stopped.PowerSafe ∧ stopped.cutoff = true
    ∧ stopped.StopsOnEstop ∧ ready.StopsOnEstop ∧ ready.device.state = .ready := by
  have h : ∀ c : Chan, ((stopped.tables.outputMap.get c).any Func.isPower) = true → (stopped.chan c).drive = .off := by
    decide +kernel
  refine ⟨⟨_, rfl⟩, fun c f hc hf _ => .inl (h c (by simp [hc, hf])), ?_⟩
  unfold State.StopsOnEstop; decide +kernel

end Sys2Proof.Tests
end

/-! The base sets of the strokes (R54), and what a round asks of a slot before it grants it (R27). -/

namespace Sys2Proof.Machine

/-- R54 by its rules: three conditions stand in every base set, SUPPLY_USABLE in those of the powered strokes, and the
measurements in those of their own actuator. -/
theorem baseSet_iff (a : Actuator) (k : Stroke) (c : Cond) :
    baseSet a k c = true ↔ c ∈ [Cond.parked, .standstill, .estopClear] ∨ (k = .powered ∧ c = .supplyUsable)
      ∨ (a = .lift ∧ c ∈ [Cond.heightValid, .pressureValid]) ∨ (a = .tilt ∧ c = .tiltValid) := by
  cases c <;> simp [baseSet]

theorem baseSet_lift_iff (k : Stroke) (c : Cond) :
    baseSet .lift k c = true ↔ c ∈ [Cond.parked, .standstill, .estopClear] ∨ (k = .powered ∧ c = .supplyUsable)
      ∨ c ∈ [Cond.heightValid, .pressureValid] := by
  simp [baseSet_iff]

theorem baseSet_tilt_iff (k : Stroke) (c : Cond) :
    baseSet .tilt k c = true ↔ c ∈ [Cond.parked, .standstill, .estopClear] ∨ (k = .powered ∧ c = .supplyUsable)
      ∨ c = .tiltValid := by
  simp [baseSet_iff]

/-- The hatches need no measurement. -/
theorem baseSet_hatch_iff {a : Actuator} (h : a = .khatch ∨ a = .ohatch) (k : Stroke) (c : Cond) :
    baseSet a k c = true ↔ c ∈ [Cond.parked, .standstill, .estopClear] ∨ (k = .powered ∧ c = .supplyUsable) := by
  obtain rfl | rfl := h <;> simp [baseSet_iff]

theorem State.isPowered_iff (s : State) (a : Actuator) : s.isPowered a = true ↔ (s.slot a).stroke = some .powered := by
  simp [State.isPowered]

/-- What R27 asks of a slot whose motion is of stroke `k`. -/
theorem State.permitted_iff_of_stroke {s : State} {a : Actuator} {k : Stroke} (hk : (s.slot a).stroke = some k) :
    s.permitted a = true ↔ s.ready a k = true ∧ CondSet.within (s.slot a).need s.permit.conds = true
      ∧ (k = .powered → s.cond .supplyNormal = true) := by
  simp [State.permitted, hk, and_assoc, imp_iff_not_or]

/-- R27: a powered stroke waits for SUPPLY_NORMAL, whatever its requirement set holds. -/
theorem State.supplyNormal_of_permitted_powered {s : State} {a : Actuator} (hpow : s.isPowered a = true)
    (hperm : s.permitted a = true) : s.cond .supplyNormal = true := by
  have hstroke := (State.isPowered_iff s a).1 hpow
  obtain ⟨-, -, hsupply⟩ := (State.permitted_iff_of_stroke hstroke).1 hperm
  exact hsupply rfl

/-- Settles O31: the rows of R54's table are read off its rules, actuator by actuator. -/
theorem baseSets : Obligations.BaseSets := by
  unfold Obligations.BaseSets
  refine ⟨fun c => ?liftPowered, fun c => ?liftReturn, fun c => ?tiltPowered, fun c => ?tiltReturn,
    fun a c h => ?hatchPowered, fun a c h => ?hatchReturn, fun s a => State.supplyNormal_of_permitted_powered⟩
  case liftPowered => simp [baseSet_lift_iff, or_assoc]
  case liftReturn => simp [baseSet_lift_iff, or_assoc]
  case tiltPowered => simp [baseSet_tilt_iff, or_assoc]
  case tiltReturn => simp [baseSet_tilt_iff, or_assoc]
  case hatchPowered => simp [baseSet_hatch_iff h, or_assoc]
  case hatchReturn => simp [baseSet_hatch_iff h]

end Sys2Proof.Machine

/-! SEQ_HOLD by the context's state and its sender (R100, R110). -/

namespace Sys2Proof.Machine

section
variable {s : State} {l : Link} {c : Ctx} {tag x : Byte}

/-- R110's row IDLE: the record's owner does not matter. -/
theorem State.takeSeqHold_idle (h : (s.context c).state = .idle) : s.takeSeqHold c = s.answer .notOwner := by
  simp [State.takeSeqHold, h]

theorem State.takeSeqHold_held (h : (s.context c).state = .active) (hh : (s.context c).held = true) :
    s.takeSeqHold c = (s.setContext c { s.context c with holdTimer := some 0 }).answer .accepted := by
  simp [State.takeSeqHold, h, hh]

theorem State.takeSeqHold_unheld (h : (s.context c).state = .active) (hh : (s.context c).held = false) :
    s.takeSeqHold c = s.answer .accepted := by
  simp [State.takeSeqHold, h, hh]

theorem State.takeSeqHold_paused (h : (s.context c).state = .paused) :
    s.takeSeqHold c = (s.resumeRun c).finish.answer .accepted := by
  simp [State.takeSeqHold, h]

/-- R100 at a context's number in READY: what is left to look at is the context's owner. -/
theorem seqHoldRule_ready (hx : indexOfByte 2 x = some c) (hready : s.device.state = .ready) :
    seqHoldRule l [x] s = if (s.context c).owner = some l then s.takeSeqHold c else s.answer .notOwner := by
  simp [seqHoldRule, oneIndex, hx, hready]

theorem seqHoldRule_stranger (hx : indexOfByte 2 x = some c) (hready : s.device.state = .ready)
    (howner : (s.context c).owner ≠ some l) : seqHoldRule l [x] s = s.answer .notOwner := by
  rw [seqHoldRule_ready hx hready, if_neg howner]

theorem seqHoldRule_owner (hx : indexOfByte 2 x = some c) (hready : s.device.state = .ready)
    (howner : (s.context c).owner = some l) : seqHoldRule l [x] s = s.takeSeqHold c := by
  rw [seqHoldRule_ready hx hready, if_pos howner]

/-- A SEQ_HOLD that may be made replies what R100 and R110 answer in the state its frame leaves. -/
theorem exec_seqHold_of_answer {ps : List Byte} {t : State} {res : Result} (hadm : s.admits l cabRear)
    (hready : s.device.state = .ready) (hrule : seqHoldRule l ps (s.withFrame l) = t.answer res) :
    exec (.seqHold l tag ps) s = .next (t.replied l 0x21 tag res []) := by
  have hserved : exec (.seqHold l tag ps) s = .next ((seqHoldRule l ps (s.withFrame l)).post l 0x21 tag) :=
    congrArg _ (State.serve_taken hadm (.inl (by simp [hready])))
  rw [hserved, hrule]
  rfl

end

/-- Settles O44: the frame leaves the contexts and the device state as they were, so R110's table is read at the state before
it, first by the sender and then by the context's state. -/
theorem sequenceHolds : Obligations.SequenceHolds := by
  intro s l tag x c hx hadm hready
  have fromOwner (howner : (s.context c).owner = some l) :
      seqHoldRule l [x] (s.withFrame l) = (s.withFrame l).takeSeqHold c := seqHoldRule_owner hx hready howner
  refine ⟨fun h => ?notOwner, fun howner hactive hheld => ?held, fun howner hactive hheld => ?unheld,
    fun howner hpaused => ?paused⟩ <;> apply exec_seqHold_of_answer hadm hready
  case notOwner =>
    by_cases howner : (s.context c).owner = some l
    · have hidle := h.resolve_left (not_not_intro howner)
      exact (fromOwner howner).trans (State.takeSeqHold_idle hidle)
    · exact seqHoldRule_stranger hx hready howner
  case held => exact (fromOwner howner).trans (State.takeSeqHold_held hactive hheld)
  case unheld => exact (fromOwner howner).trans (State.takeSeqHold_unheld hactive hheld)
  case paused => exact (fromOwner howner).trans (State.takeSeqHold_paused hpaused)

end Sys2Proof.Machine

/-! The end of a condition at its entry (R163). -/

namespace Sys2Proof.Machine

theorem FaultEntry.isFor_iff (e : FaultEntry) (k : FaultKind) (u : Subject) :
    e.isFor k u = true ↔ e.kind = k ∧ e.subject = u := by
  simp [FaultEntry.isFor]

section
variable {s : State} {e : FaultEntry} {k : FaultKind} {u : Subject}

/-- R160: a kind and subject name at most one entry of a sound table. -/
theorem FaultTable.Sound.eq_of_isFor {t : FaultTable} (ht : t.Sound) {e' : FaultEntry} (he : e ∈ t.entries)
    (he' : e' ∈ t.entries) (hfor : e.isFor k u = true) (hfor' : e'.isFor k u = true) : e = e' := by
  obtain ⟨-, hunique, -⟩ := ht
  have : Std.Symm fun x y : FaultEntry => ¬(x.kind = y.kind ∧ x.subject = y.subject) :=
    ⟨fun x y h ⟨hkind, hsubject⟩ => h ⟨hkind.symm, hsubject.symm⟩⟩
  obtain ⟨hkind, hsubject⟩ := (e.isFor_iff k u).1 hfor
  obtain ⟨hkind', hsubject'⟩ := (e'.isFor_iff k u).1 hfor'
  by_contra hne
  exact hunique.forall he he' hne ⟨hkind.trans hkind'.symm, hsubject.trans hsubject'.symm⟩

/-- So a search by kind and subject finds the entry they name, wherever it stands. -/
theorem FaultTable.Sound.find_isFor {t : FaultTable} (ht : t.Sound) (he : e ∈ t.entries) (hfor : e.isFor k u = true) :
    (t.entries.find? fun x => x.isFor k u) = some e := by
  cases hfind : t.entries.find? fun x => x.isFor k u with
  | none => exact absurd hfor (List.find?_eq_none.1 hfind e he)
  | some x =>
    have hx : x.isFor k u = true := by simpa using List.find?_some hfind
    rw [ht.eq_of_isFor he (List.mem_of_find?_eq_some hfind) hfor hx]

theorem State.takeConditionEnd_absent (habsent : ∀ e ∈ s.faults.entries, e.isFor k u = false) :
    s.takeConditionEnd k u = s := by
  have hfind : (s.faults.entries.find? fun x => x.isFor k u) = none :=
    List.find?_eq_none.2 fun x hx => by simp [habsent x hx]
  simp [State.takeConditionEnd, hfind]

/-- The table's rows for an entry that is present are read at the entry that the search finds. -/
theorem State.takeConditionEnd_present (hsound : s.faults.Sound) (he : e ∈ s.faults.entries)
    (hfor : e.isFor k u = true) :
    s.takeConditionEnd k u = if e.active = false then s else if e.acked = true then s.removeEntry k u
      else s.setEntries (s.faults.entries.map fun x => if x.isFor k u then { x with active := false } else x) := by
  simp [State.takeConditionEnd, hsound.find_isFor he hfor]

end

/-- Settles O52: soundness makes the entry unique, so each row of R163 is the branch taken at the one entry that is found. -/
theorem conditionsEnd : Obligations.ConditionsEnd := by
  intro s k subject hsound
  refine ⟨fun e he hfor hactive hacked => ?clears, fun e he hfor hactive hacked => ?removes,
    fun e he hfor hcleared => ?cleared, State.takeConditionEnd_absent⟩
  case clears => simp [State.takeConditionEnd_present hsound he hfor, hactive, hacked]
  case removes =>
    have hremoved : s.takeConditionEnd k subject = s.removeEntry k subject := by
      simp [State.takeConditionEnd_present hsound he hfor, hactive, hacked]
    exact ⟨hremoved, by rw [hremoved, State.entries_removeEntry]⟩
  case cleared => simp [State.takeConditionEnd_present hsound he hfor, hcleared]

end Sys2Proof.Machine

/-! What a command can do: the rule that answers each request, the event each timer or measurement brings, and one inversion of
`exec` that the invariants and frames below are read off. -/

namespace Sys2Proof.Machine

/-! ### Requests -/

/-- The owner's rule of a request; a command that is no request has none. -/
def ruleOf : Instr → Option (State → Answer)
  | .status _ _ ps => some (statusRule ps)
  | .faults _ _ ps => some (faultsRule ps)
  | .resetCause l _ ps => some (resetCauseRule l ps)
  | .hold l _ ps => some (holdRule l ps)
  | .release l _ ps => some (releaseRule l ps)
  | .move l _ ps => some (moveRule l ps)
  | .cancel _ _ ps => some (cancelRule ps)
  | .seqStart l _ ps => some (seqStartRule l ps)
  | .seqHold l _ ps => some (seqHoldRule l ps)
  | .seqCancel l _ ps => some (seqCancelRule l ps)
  | .lampSet _ _ ps => some (lampSetRule ps)
  | .lampClear _ _ ps => some (lampClearRule ps)
  | .output _ _ ps => some (outputRule ps)
  | .stopAll _ _ ps => some (stopAllRule ps)
  | .resume _ _ ps => some (resumeRule ps)
  | .ack _ _ ps => some (ackRule ps)
  | .ackAll _ _ => some ackAllRule
  | .configEnter l _ ps => some (configEnterRule l ps)
  | .configWrite l _ ps => some (configWriteRule l ps)
  | .configRead _ _ ps => some (configReadRule ps)
  | .configCommit l _ ps => some (configCommitRule l ps)
  | .restart _ _ ps => some (restartRule ps)
  | .unknownRequest _ _ _ _ => some fun s => s.answer .unknownRequest
  | _ => none

/-- A request of the table is served by its rule (R172, R176). -/
theorem exec_request {c : Instr} {r : RequestRow} (hc : c.request? = some r) :
    ∃ rule, ruleOf c = some rule ∧ ∀ s, exec c s = .next (s.serve r.link r.code r.tag r.who r.inStartup rule) := by
  cases c <;> cases hc <;> exact ⟨_, rfl, fun _ => rfl⟩

/-- A motion of the slot is in progress and not ending: WAITING, PRIMING, RUNNING or HOLDING (R2). -/
def SlotState.keptAlive : SlotState → Bool
  | .waiting | .priming | .running | .holding => true
  | .idle | .settling | .blocked => false

/-- What a request's rule does to the part, before what follows from it. -/
inductive State.RequestEffect (u : State) (l : Link) : Instr → State → Prop
  | hold {tag ps} (a : Actuator) (k : Stroke) : u.device.state = .ready → (u.slot a).state = .idle →
      RequestEffect u l (.hold l tag ps) (u.enterWaiting a k (u.takenTarget a k none) none (.holder l))
  | conflict {tag ps} (a : Actuator) : u.device.state = .ready → (u.slot a).state.keptAlive = true →
      RequestEffect u l (.hold l tag ps) (u.takeConflict a l)
  | release {tag ps} (a : Actuator) : u.device.state = .ready → ((u.slot a).holders.get l).isSome = true →
      RequestEffect u l (.release l tag ps) (u.holderLeaves a l .released)
  | unwatch {tag ps} (a : Actuator) : u.device.state = .ready → ((u.slot a).watch.get l).isSome = true →
      RequestEffect u l (.release l tag ps) (u.watcherLeaves a l)
  | move {tag ps} (a : Actuator) (k : Stroke) (target : Option Nat) : u.device.state = .ready → (u.slot a).state = .idle →
      RequestEffect u l (.move l tag ps) (u.enterWaiting a k (u.takenTarget a k target) none (.owner (.link l)))
  | cancel {tag ps} (a : Actuator) : u.device.state = .ready → RequestEffect u l (.cancel l tag ps) (u.endMotion a .cancelled)
  | seqStart {tag ps} (c : Ctx) (n : Fin 8) (first : Fin 32) : u.device.state = .ready →
      RequestEffect u l (.seqStart l tag ps) (u.startRun c n l first)
  | resumeRun {tag ps} (c : Ctx) : u.device.state = .ready → RequestEffect u l (.seqHold l tag ps) (u.resumeRun c)
  | cancelRun {tag ps} (c : Ctx) : u.device.state = .ready → RequestEffect u l (.seqCancel l tag ps) (u.cancelRun c)
  | setLamp {tag ps} (n : Lamp) (r : LampRec) : RequestEffect u l (.lampSet l tag ps) (u.setLamp n r)
  | clearLamp {tag ps} (n : Lamp) : RequestEffect u l (.lampClear l tag ps) (u.clearLamp n)
  | output {tag ps} (f : Func) (r : Request) : RequestEffect u l (.output l tag ps) (u.setRequest f r)
  | stopAll {tag ps} : u.device.state = .ready → RequestEffect u l (.stopAll l tag ps) u.enterStopped
  | resume {tag ps} : u.device.state = .stopped → u.deasserted .estop = true →
      RequestEffect u l (.resume l tag ps) (u.setDeviceState .ready)
  | ack {tag ps} (k : FaultKind) (subject : Subject) : RequestEffect u l (.ack l tag ps) (u.acknowledge k subject)
  | ackAll {tag} : RequestEffect u l (.ackAll l tag) u.acknowledgeAll
  | configEnter {tag ps} :
      u.device.state = .unconfigured ∨ (u.device.state = .ready ∧ u.slotsIdle = true ∧ u.contextsIdle = true) →
      RequestEffect u l (.configEnter l tag ps) (u.enterConfig l)
  | configWrite {tag ps} (r : Record) : u.device.state = .config → u.device.owner = some l →
      RequestEffect u l (.configWrite l tag ps) (u.writeRecord r)
  | configCommit {tag ps} : u.device.state = .config → RequestEffect u l (.configCommit l tag ps) u.commit

/-- What an answer leaves of the part: it stands, one record of a link, a slot or a context is refreshed, or the rule has an effect
with all that follows from it. -/
inductive State.Answered (u : State) (l : Link) (c : Instr) : State → Prop
  | unchanged : Answered u l c u
  | causesRead : Answered u l c (u.setLink l { u.link l with causes := noCauses })
  | joined (a : Actuator) : u.device.state = .ready → (u.slot a).state.keptAlive = true → (u.slot a).owner = none →
      Answered u l c (u.joinHolders a l)
  | watched (a : Actuator) : u.device.state = .ready → (u.slot a).state = .settling ∨ (u.slot a).state = .blocked →
      Answered u l c (u.watchLink a l)
  | refreshed (d : Ctx) : Answered u l c (u.setContext d { u.context d with holdTimer := some 0 })
  | followed {e : State} : u.RequestEffect l c e → Answered u l c e.finish

section
variable {u : State} {l : Link} {tag : Byte} {ps : List Byte}

@[simp] theorem State.answer_state (r : Result) : (u.answer r).state = u := rfl
@[simp] theorem State.answerData_state (data : List Byte) : (u.answerData data).state = u := rfl

/-- What a request for a motion comes to: it is taken, and puts its slot in WAITING, or it is not, and changes nothing (R3, R4). -/
theorem State.takeMotion_cases (a : Actuator) (k : Stroke) (given : Option Nat) (gate : Option Gate) (w : Starter) :
    (∃ r, r ≠ .accepted ∧ r ≠ .clamped ∧ u.takeMotion a k given gate w = (r, u))
      ∨ u.takeMotion a k given gate w = (if u.targetClamped a given then .clamped else .accepted,
        u.enterWaiting a k (u.takenTarget a k given) gate w) := by
  unfold State.takeMotion
  dsimp only
  split
  · exact .inl ⟨_, by decide, by decide, rfl⟩
  split
  · exact .inl ⟨_, by decide, by decide, rfl⟩
  split
  · exact .inl ⟨_, by decide, by decide, rfl⟩
  · exact .inr rfl

/-- The state a slot's answer to a request for a motion leaves. -/
theorem State.motionAnswer_state (a : Actuator) (k : Stroke) (given : Option Nat) (gate : Option Gate) (w : Starter) :
    (u.motionAnswer (u.takeMotion a k given gate w)).state = u
      ∨ (u.motionAnswer (u.takeMotion a k given gate w)).state
        = (u.enterWaiting a k (u.takenTarget a k given) gate w).finish := by
  unfold State.motionAnswer
  obtain ⟨r, hr, hr', h⟩ | h := State.takeMotion_cases (u := u) a k given gate w <;> rw [h]
  · rw [if_neg (by simp [hr, hr'])]
    exact .inl rfl
  · rw [if_pos (by dsimp only; split <;> simp)]
    exact .inr rfl

theorem holdRule_answered : u.Answered l (.hold l tag ps) (holdRule l ps u).state := by
  unfold holdRule
  split
  · exact .unchanged
  next hready =>
  have hready : u.device.state = .ready := not_not.1 hready
  repeat' split
  all_goals try exact .unchanged
  next a k _ _ =>
  unfold State.takeHold
  dsimp only
  split
  case h_1 hidle =>
    obtain h | h := State.motionAnswer_state (u := u) a k none none (.holder l) <;> rw [h]
    · exact .unchanged
    · exact .followed (.hold a k hready hidle)
  case h_6 hsettling => exact .watched a hready (.inl hsettling)
  case h_7 hblocked => exact .watched a hready (.inr hblocked)
  all_goals
    next hstate =>
    split
    · exact .unchanged
    next howner =>
    have hkept : (u.slot a).state.keptAlive = true := by rw [hstate]; rfl
    split
    · exact .joined a hready hkept (by simpa using howner)
    · exact .followed (.conflict a hready hkept)

theorem releaseRule_answered : u.Answered l (.release l tag ps) (releaseRule l ps u).state := by
  unfold releaseRule
  split
  · exact .unchanged
  next hready =>
  repeat' split
  case h_1 =>
    unfold State.takeRelease
    split
    · next h => exact .followed (.release _ (not_not.1 hready) h)
    split
    · next h => exact .followed (.unwatch _ (not_not.1 hready) h)
    · exact .unchanged
  all_goals exact .unchanged

theorem moveRule_answered : u.Answered l (.move l tag ps) (moveRule l ps u).state := by
  unfold moveRule State.takeMove
  split
  · exact .unchanged
  next hready =>
  split
  case h_2 => exact .unchanged
  next a k target _ =>
  split
  · exact .unchanged
  split
  · exact .unchanged
  next hidle =>
  obtain h | h := State.motionAnswer_state (u := u) a k target none (.owner (.link l)) <;> rw [h]
  · exact .unchanged
  · exact .followed (.move a k target (not_not.1 hready) (not_not.1 hidle))

theorem cancelRule_answered : u.Answered l (.cancel l tag ps) (cancelRule ps u).state := by
  unfold cancelRule
  split
  · exact .unchanged
  next hready =>
  repeat' split
  case h_1 =>
    unfold State.takeCancel
    repeat' split
    all_goals first
      | exact .unchanged
      | exact .followed (.cancel _ (not_not.1 hready))
  all_goals exact .unchanged

theorem seqStartRule_answered : u.Answered l (.seqStart l tag ps) (seqStartRule l ps u).state := by
  unfold seqStartRule
  split
  · exact .unchanged
  next hready =>
  repeat' split
  case h_1 =>
    unfold State.takeSeqStart
    split
    · rw [State.answerData_state]
      exact .followed (.seqStart _ _ _ (not_not.1 hready))
    · exact .unchanged
  all_goals exact .unchanged

theorem seqHoldRule_answered : u.Answered l (.seqHold l tag ps) (seqHoldRule l ps u).state := by
  unfold seqHoldRule
  split
  · exact .unchanged
  next hready =>
  split
  case h_2 => exact .unchanged
  split
  case isFalse => exact .unchanged
  unfold State.takeSeqHold
  dsimp only
  split
  · exact .followed (.resumeRun _ (not_not.1 hready))
  · split
    · exact .refreshed _
    · exact .unchanged
  · exact .unchanged

theorem seqCancelRule_answered : u.Answered l (.seqCancel l tag ps) (seqCancelRule l ps u).state := by
  unfold seqCancelRule
  split
  · exact .unchanged
  next hready =>
  split
  case h_2 => exact .unchanged
  unfold State.takeSeqCancel
  dsimp only
  split
  · exact .unchanged
  split
  · exact .followed (.cancelRun _ (not_not.1 hready))
  · exact .unchanged

theorem lampSetRule_answered : u.Answered l (.lampSet l tag ps) (lampSetRule ps u).state := by
  unfold lampSetRule
  split
  · exact .unchanged
  split
  case h_2 => exact .unchanged
  split
  · exact .unchanged
  split
  · exact .unchanged
  unfold State.setLampOrder
  dsimp only
  split <;> exact .followed (.setLamp _ _)

theorem lampClearRule_answered : u.Answered l (.lampClear l tag ps) (lampClearRule ps u).state := by
  unfold lampClearRule
  repeat' split
  all_goals first
    | exact .unchanged
    | exact .followed (.clearLamp _)

theorem outputRule_answered : u.Answered l (.output l tag ps) (outputRule ps u).state := by
  unfold outputRule
  repeat' split
  all_goals first
    | exact .unchanged
    | exact .followed (.output _ _)

theorem stopAllRule_answered : u.Answered l (.stopAll l tag ps) (stopAllRule ps u).state := by
  unfold stopAllRule
  split
  · exact .unchanged
  split
  · exact .unchanged
  split
  · next h =>
    rw [State.answer_state]
    exact .followed (.stopAll h)
  · exact .unchanged

theorem resumeRule_answered : u.Answered l (.resume l tag ps) (resumeRule ps u).state := by
  unfold resumeRule
  repeat' split
  all_goals try exact .unchanged
  next hstopped _ hclear =>
  exact .followed (.resume hstopped (Bool.and_eq_true_iff.1 hclear).1)

theorem ackRule_answered : u.Answered l (.ack l tag ps) (ackRule ps u).state := by
  unfold ackRule
  repeat' split
  all_goals first
    | exact .unchanged
    | exact .followed (.ack _ _)

theorem ackAllRule_answered : u.Answered l (.ackAll l tag) (ackAllRule u).state := by
  unfold ackAllRule
  split
  · exact .unchanged
  · exact .followed .ackAll

theorem configEnterRule_answered : u.Answered l (.configEnter l tag ps) (configEnterRule l ps u).state := by
  unfold configEnterRule
  repeat' split
  all_goals try exact .unchanged
  · next h _ => exact .followed (.configEnter (.inl h))
  · next h _ hidle => exact .followed (.configEnter (.inr ⟨h, Bool.and_eq_true_iff.1 hidle⟩))

theorem configWriteRule_answered : u.Answered l (.configWrite l tag ps) (configWriteRule l ps u).state := by
  unfold configWriteRule
  split
  · exact .unchanged
  next hconfig =>
  split
  · exact .unchanged
  next howner =>
  split
  · exact .followed (.configWrite _ (not_not.1 hconfig) (not_not.1 howner))
  · exact .unchanged

theorem configCommitRule_answered : u.Answered l (.configCommit l tag ps) (configCommitRule l ps u).state := by
  unfold configCommitRule
  repeat' split
  all_goals try exact .unchanged
  next hconfig _ _ _ _ => exact .followed (.configCommit (not_not.1 hconfig))

theorem resetCauseRule_answered : u.Answered l (.resetCause l tag ps) (resetCauseRule l ps u).state := by
  unfold resetCauseRule
  split
  · exact .causesRead
  · exact .unchanged

theorem statusRule_state : (statusRule ps u).state = u := by unfold statusRule; split <;> rfl
theorem faultsRule_state : (faultsRule ps u).state = u := by unfold faultsRule; repeat' split
                                                             all_goals rfl
theorem configReadRule_state : (configReadRule ps u).state = u := by unfold configReadRule; repeat' split
                                                                     all_goals rfl
theorem restartRule_state : (restartRule ps u).state = u := by unfold restartRule; split <;> rfl

end

/-- Every rule's answer leaves what `Answered` lists. -/
theorem rule_answered {c : Instr} {r : RequestRow} {rule : State → Answer} (hc : c.request? = some r)
    (hrule : ruleOf c = some rule) (u : State) : u.Answered r.link c (rule u).state := by
  cases c <;> cases hc <;> cases hrule
  case status => rw [statusRule_state]; exact .unchanged
  case faults => rw [faultsRule_state]; exact .unchanged
  case resetCause => exact resetCauseRule_answered
  case hold => exact holdRule_answered
  case release => exact releaseRule_answered
  case move => exact moveRule_answered
  case cancel => exact cancelRule_answered
  case seqStart => exact seqStartRule_answered
  case seqHold => exact seqHoldRule_answered
  case seqCancel => exact seqCancelRule_answered
  case lampSet => exact lampSetRule_answered
  case lampClear => exact lampClearRule_answered
  case output => exact outputRule_answered
  case stopAll => exact stopAllRule_answered
  case resume => exact resumeRule_answered
  case ack => exact ackRule_answered
  case ackAll => exact ackAllRule_answered
  case configEnter => exact configEnterRule_answered
  case configWrite => exact configWriteRule_answered
  case configRead => rw [configReadRule_state]; exact .unchanged
  case configCommit => exact configCommitRule_answered
  case restart => rw [restartRule_state]; exact .unchanged
  case unknownRequest => exact .unchanged

/-- A served request posts a reply on what its answer leaves: a refusal by the checks leaves the part as the frame does. -/
theorem State.serve_answered {s : State} {l : Link} {c : Instr} {code tag : Byte} {who : Permission} {inStartup : Bool}
    {rule : State → Answer} (htaken : s.takesFrame l = true)
    (hrule : (s.withFrame l).Answered l c (rule (s.withFrame l)).state) :
    ∃ u res data b, (s.withFrame l).Answered l c u
      ∧ s.serve l code tag who inStartup rule = u.replied l code tag res data b := by
  unfold State.serve State.checkedAnswer
  rw [if_pos htaken]
  split
  · exact ⟨_, _, _, _, .unchanged, rfl⟩
  · split
    · exact ⟨_, _, _, _, .unchanged, rfl⟩
    · exact ⟨_, _, _, _, hrule, rfl⟩

/-! ### Events -/

/-- Whether an event comes, and its effect, before what follows from it; a command that is no event has none. -/
def State.eventOf (s : State) : Instr → Option (Bool × State)
  | .gapTimerExpiry l => some (s.gapDue l, s.discardPartial l)
  | .replyStart l => some ((s.link l).waiting.isSome, s.setLink l (s.link l).startReply)
  | .replySent l => some ((s.link l).sending.isSome, s.replySent l)
  | .replyDropped l => some ((s.link l).waiting.isSome, s.replyDropped l)
  | .wakeStartBit l => some (s.startBitWakes l, s.wake true)
  | .holderLapse a l => some (s.holderDue a l || s.watchDue a l, s.lapseHolder a l)
  | .watchLapse a l => some (s.watchDue a l, s.watcherLeaves a l)
  | .runLimitExpiry a => some (s.runLimitDue a, (s.endMotion a .timeout).push (.occurrence .runTimeout (.actuator a)))
  | .holdTimerExpiry a => some (s.holdDue a, s.endMotion a .gateTimeout)
  | .runDownEnd a => some (s.runDownDue a, s.complete a (s.slot a).outcome)
  | .profileUpdate => some (s.updateDue, s.profileUpdate)
  | .overloadExpiry =>
    some (s.overloadDue, (s.endMotion .lift .overload).push (.occurrence .overload (.actuator .lift)))
  | .primeLimit a => some (s.primeDue a, s.reachPrimeLimit a)
  | .stuckWatchExpiry => some (s.stuckDue, s.stuckExpired)
  | .debounceSettle i => some (s.debounceDue i, s.debounced i)
  | .speedEdge => some (s.speedDue, s.takeSpeed)
  | .quietTimerExpiry => some (s.quietDue, s.takeQuiet)
  | .captureRisingEdge m => some (s.takesEdges, s.risingEdge m)
  | .captureFallingEdge m => some (s.takesEdges, s.fallingEdge m)
  | .lostExpiry m => some (s.lostDue m, s.loseSensor m)
  | .startupEnd => some (s.startupDue, s.endStartup)
  | .batterySample mv => some (s.sampleDue, s.takeSample mv.toNat)
  | .clockComparison count => some (s.clockDue, s.compareClock count)
  | .ownerLapse => some (s.ownerDue, s.lapseOwner)
  | .dormancyTimerExpiry => some (s.dormancyDue, s)
  | .wakeIgn => some (s.ignDue, s.wake true)
  | .wakeLine => some (decide (s.device.state = .dormant), s.wake false)
  | .wakeDriveEnd => some (s.wakeDriveDue, { s with device := { s.device with wakeDrive := none } })
  | .phaseTimerExpiry n => some (s.phaseDue n, s.setLamp n (s.lamp n).phaseEnd)
  | .trailTimerExpiry n =>
    some (s.trailDue n, s.setLamp n { s.lamp n with motion := .absent, trailTimer := none })
  | .leadReached n => some (s.leadDue n, s.push .primeTest)
  | .lampProveTest n current => some (s.proveDue n, s.proveLamp n current)
  | .openLoadTest c current => some (s.openLoadDue c, s.testOpenLoad c current)
  | .shortTrip c current => some (decide (shortLoad < (s.chan c).loadCurrent current), s.tripChan c)
  | .pwmPeriodStart c => some (s.periodDue c, s.setChan c (s.chan c).periodStart)
  | .stepTimerExpiry c => some (s.stepDue c, s.stepTimeout c)
  | .sequenceLapse c => some (s.runHoldDue c, s.lapseRun c)
  | .pauseTimerExpiry c => some (s.pauseDue c, s.endRun c .lapsed)
  | _ => none

/-- An event changes nothing where it does not come or RESETB is low; otherwise it has its effect with all that follows (log 3,
log 23). -/
theorem exec_event {s u : State} {c : Instr} {b : Bool} (hc : s.eventOf c = some (b, u)) :
    exec c s = .next (if s.pins.resetbLow || !b then s else u.finishEvent) := by
  cases c <;> cases hc <;> rfl

/-- An event that comes. -/
theorem exec_event_comes {s u : State} {c : Instr} (hc : s.eventOf c = some (true, u)) (hr : s.pins.resetbLow = false) :
    exec c s = .next u.finishEvent := by
  rw [exec_event hc, hr]; rfl

/-- An event that does not come. -/
theorem exec_event_waits {s u : State} {c : Instr} (hc : s.eventOf c = some (false, u)) : exec c s = .next s := by
  rw [exec_event hc]; simp

/-! ### Every command -/

/-- Everything that taking a command can do. -/
inductive State.Leads (s : State) : Instr → State → Prop
  | stays {c} : Leads s c s
  | answered {c r u res data b} : c.request? = some r → s.takesFrame r.link = true →
      (s.withFrame r.link).Answered r.link c u → Leads s c (u.replied r.link r.code r.tag res data b)
  | receives {c} (l : Link) (rx : Rx) (gap : Option Nat) : Leads s c (s.setLink l { s.link l with rx := rx, gap := gap })
  | wakes {c} (drives : Bool) : s.device.state = .dormant → Leads s c (s.wake drives).finish
  | restarts {c} : Leads s c (s.resetPart .restart)
  | happens {c u} : s.eventOf c = some (true, u) → Leads s c u.finishEvent
  | powerOn : Leads s .powerOnReset s.powerOn
  | pinReset : Leads s .pinReset s.pinReset
  | release : Leads s .resetbRelease s.resetbRelease
  | pin (p : Pin) (d : Drive) : Leads s (.pinLevelChange p d) (s.changePin p d)

/-- A frame that is not taken (R156, R158, R170). -/
theorem State.losesFrame_leads (s : State) (l : Link) (c : Instr) : s.Leads c (s.losesFrame l) := by
  unfold State.losesFrame
  repeat' split
  · exact .stays
  · exact .receives l .hunt none
  · next h => exact .wakes true h
  · exact .restarts

/-- Characters on a line that bring no frame (R156, R170). -/
theorem State.onLine_leads (s : State) (l : Link) (c : Instr) (effect : State → State)
    (heffect : ∃ rx gap, effect s = s.setLink l { s.link l with rx := rx, gap := gap }) :
    s.Leads c (s.onLine l effect) := by
  obtain ⟨rx, gap, heffect⟩ := heffect
  unfold State.onLine
  split
  · exact .stays
  split
  · next h =>
    split
    · exact .wakes true h
    · exact .stays
  · rw [heffect]; exact .receives l rx gap

/-- A command that is neither a request nor an event comes from the lines, the pins or a reset. -/
theorem exec_leads_outside {s t : State} {c : Instr} (hrequest : c.request? = none) (hevent : s.eventOf c = none)
    (h : exec c s = .next t) : s.Leads c t := by
  cases c <;> cases hrequest <;> cases hevent
  case frameDiscarded l cs =>
    cases h
    split
    · exact .stays
    · exact s.onLine_leads l _ _ ⟨_, _, rfl⟩
  case framingError l => cases h; exact s.onLine_leads l _ _ ⟨_, _, rfl⟩
  case powerOnReset => cases h; exact .powerOn
  case pinReset => cases h; exact .pinReset
  case pinLevelChange p d => cases h; exact .pin p d
  case resetbRelease => cases h; exact .release

/-- The inversion of `exec`. -/
theorem exec_leads {s t : State} {c : Instr} (h : exec c s = .next t) : s.Leads c t := by
  cases hrequest : c.request? with
  | some r =>
    obtain ⟨rule, hrule, hserve⟩ := exec_request hrequest
    rw [hserve] at h
    cases h
    cases htaken : s.takesFrame r.link with
    | true =>
      obtain ⟨u, res, data, b, hu, ht⟩ := State.serve_answered (code := r.code) (tag := r.tag) (who := r.who)
        (inStartup := r.inStartup) htaken (rule_answered hrequest hrule (s.withFrame r.link))
      rw [ht]
      exact .answered hrequest htaken hu
    | false =>
      rw [State.serve_lost htaken]
      exact s.losesFrame_leads r.link c
  | none =>
    cases hevent : s.eventOf c with
    | none => exact exec_leads_outside hrequest hevent h
    | some bu =>
      obtain ⟨b, u⟩ := bu
      rw [exec_event hevent] at h
      cases h
      split
      · exact .stays
      · next hcomes =>
        have hb : b = true := by simp at hcomes; exact hcomes.2
        exact .happens (hb ▸ hevent)

/-- A step is a tick on an empty queue, and the command at its front otherwise. -/
theorem step_leads {s t : State} (h : step s = .next t) :
    (s.pending = [] ∧ t = s.tick) ∨ ∃ c rest, s.pending = c :: rest ∧ State.Leads { s with pending := rest } c t := by
  unfold step at h
  split at h
  · next hp => cases h; exact .inl ⟨hp, rfl⟩
  · next c rest hp => exact .inr ⟨c, rest, hp, exec_leads h⟩

end Sys2Proof.Machine

/-! Frames of the effects: what each event, pin and request leaves as it was, and the device state through a step. -/

namespace Sys2Proof.Machine

variable {s t u : State}

/-! ### Reading the surroundings -/

theorem State.inputs_of_around (h : t.surroundings = s.surroundings) : t.inputs = s.inputs :=
  congrArg Surroundings.inputs h

theorem State.tables_of_around (h : t.surroundings = s.surroundings) : t.tables = s.tables :=
  congrArg Surroundings.tables h

theorem State.links_of_around (h : t.surroundings = s.surroundings) : t.links = s.links :=
  congrArg Surroundings.links h

theorem State.captures_of_around (h : t.surroundings = s.surroundings) : t.captures = s.captures :=
  congrArg Surroundings.captures h

theorem State.asserted_congr (hi : t.inputs = s.inputs) (ht : t.tables = s.tables) (i : Input) :
    t.asserted i = s.asserted i := by
  unfold State.asserted State.asserted? State.input State.setup
  rw [hi, ht]

/-! ### The sensors' channels -/

@[simp] theorem State.setCapture_captures (m : Sensor) (r : Capture) :
    (s.setCapture m r).captures = s.captures.set m.ix r := rfl

/-- A capture writes the channels and hands arrivals on. -/
theorem State.goodCapture_rest (m : Sensor) (v : Nat) : s.goodCapture m v = { s with
    captures := (s.goodCapture m v).captures, agenda := (s.goodCapture m v).agenda } := rfl

theorem State.badCapture_rest (m : Sensor) : s.badCapture m = { s with
    captures := (s.badCapture m).captures, agenda := (s.badCapture m).agenda } := by
  unfold State.badCapture; dsimp only; split <;> rfl

theorem State.closePeriod_rest (m : Sensor) : s.closePeriod m = { s with
    captures := (s.closePeriod m).captures, agenda := (s.closePeriod m).agenda } := by
  unfold State.closePeriod
  split
  · split
    · exact State.goodCapture_rest ..
    · exact State.badCapture_rest ..
  · rfl

theorem State.risingEdge_rest (m : Sensor) : s.risingEdge m = { s with
    captures := (s.risingEdge m).captures, agenda := (s.risingEdge m).agenda } := by
  unfold State.risingEdge; dsimp only; rw [State.closePeriod_rest]; rfl

theorem State.fallingEdge_rest (m : Sensor) : s.fallingEdge m = { s with captures := (s.fallingEdge m).captures } := by
  unfold State.fallingEdge; dsimp only; split <;> rfl

theorem State.settleCapture_rest (m : Sensor) : s.settleCapture m = { s with
    captures := (s.settleCapture m).captures, agenda := (s.settleCapture m).agenda } := by
  unfold State.settleCapture; dsimp only; repeat' split
  all_goals rfl

theorem State.settleCaptures_rest : Sensor.all.foldl State.settleCapture s = { s with
    captures := (Sensor.all.foldl State.settleCapture s).captures
    agenda := (Sensor.all.foldl State.settleCapture s).agenda } := by
  have h := foldl_keeps (fun t : State => { t with captures := s.captures, agenda := s.agenda }) State.settleCapture
    (fun t m => by rw [State.settleCapture_rest]) Sensor.all s
  exact congrArg (fun u : State => { u with
    captures := (Sensor.all.foldl State.settleCapture s).captures
    agenda := (Sensor.all.foldl State.settleCapture s).agenda }) h

theorem State.settleEstop_rest : s.settleEstop = { s with
    device := { s.device with estopFlag := s.settleEstop.device.estopFlag }, agenda := s.settleEstop.agenda } := by
  unfold State.settleEstop; repeat' split
  all_goals rfl

/-- The end of STARTUP writes the sensors' channels, the standstill records and the device, and hands arrivals on (R144). -/
theorem State.endStartup_rest : s.endStartup = { s with
    captures := (Sensor.all.foldl State.settleCapture s).captures
    permit := { s.permit with standstill := true, lastRise := none, quiet := some 0 }
    device := { s.device with
      estopFlag := s.endStartup.device.estopFlag, state := s.stateAfterStartup, startup := none, prior := none
      dormancy := some 0 }
    agenda := s.endStartup.agenda } := by
  unfold State.endStartup; dsimp only
  rw [State.settleEstop_rest, State.settleCaptures_rest]; rfl

/-! ### Inputs, supply and loads -/

theorem State.takeSpeed_rest : s.takeSpeed = { s with inputs := s.takeSpeed.inputs, permit := s.takeSpeed.permit } := by
  unfold State.takeSpeed State.trackEdge; dsimp only; repeat' split
  all_goals rfl

/-- A battery sample resets the part, or writes the supply's records and hands arrivals on (R151 to R153). -/
theorem State.takeSample_cases (mv : Nat) :
    (∃ u : State, u = { s with supply := u.supply } ∧ s.takeSample mv = u.resetPart .brownOut)
      ∨ ∃ supply xs, s.takeSample mv = { s with supply := supply, agenda := xs } := by
  unfold State.takeSample; dsimp only
  split
  · exact .inr ⟨_, _, rfl⟩
  split
  · exact .inl ⟨_, rfl, rfl⟩
  · exact .inr ⟨_, _, rfl⟩

theorem State.compareClock_cases (count : Nat) :
    s.compareClock count = s.resetPart .clock
      ∨ s.compareClock count = { s with supply := { s.supply with clockTimer := some 0 } } := by
  unfold State.compareClock; split
  · exact .inl rfl
  · exact .inr rfl

theorem State.proveLamp_rest (n : Lamp) (current : Nat) : s.proveLamp n current = { s with
    lamps := (s.proveLamp n current).lamps, agenda := (s.proveLamp n current).agenda } := by
  unfold State.proveLamp State.proved; dsimp only; repeat' split
  all_goals rfl

theorem State.testOpenLoad_rest (c : Chan) (current : Nat) : s.testOpenLoad c current = { s with
    bank := (s.testOpenLoad c current).bank, agenda := (s.testOpenLoad c current).agenda } := by
  unfold State.testOpenLoad; dsimp only; split <;> rfl

/-- An update of the lowering stroke outside RUNNING and SETTLING only restarts its timer (R82). -/
theorem State.profileUpdate_cases :
    let s1 := { s with profile := { s.profile with update := some 0 } }
    ((s.slot .lift).state = .running ∧ s.profileUpdate = s1.updateRunning)
      ∨ ((s.slot .lift).state = .settling ∧ s.profileUpdate = s1.updateSettling)
      ∨ s.profileUpdate = s1 := by
  intro s1
  unfold State.profileUpdate
  cases h : (s.slot .lift).state
  case running => exact .inl ⟨rfl, rfl⟩
  case settling => exact .inr (.inl ⟨rfl, rfl⟩)
  all_goals exact .inr (.inr rfl)

@[simp] theorem State.profileUpdate_around : s.profileUpdate.surroundings = s.surroundings := by
  obtain ⟨-, h⟩ | ⟨-, h⟩ | h := s.profileUpdate_cases <;> rw [h]
  · exact State.updateRunning_around _
  · exact State.updateSettling_around _
  · rfl

@[simp] theorem State.reachPrimeLimit_around (a : Actuator) : (s.reachPrimeLimit a).surroundings = s.surroundings := by
  unfold State.reachPrimeLimit; split <;> simp

@[simp] theorem State.stuckExpired_around : s.stuckExpired.surroundings = s.surroundings := by
  unfold State.stuckExpired; split <;> rfl

@[simp] theorem State.proveLamp_around (n : Lamp) (current : Nat) :
    (s.proveLamp n current).surroundings = s.surroundings := by
  rw [State.proveLamp_rest]; rfl

@[simp] theorem State.testOpenLoad_around (c : Chan) (current : Nat) :
    (s.testOpenLoad c current).surroundings = s.surroundings := by
  rw [State.testOpenLoad_rest]; rfl

@[simp] theorem State.tripChan_around (c : Chan) : (s.tripChan c).surroundings = s.surroundings := rfl

@[simp] theorem State.acknowledge_around (k : FaultKind) (v : Subject) :
    (s.acknowledge k v).surroundings = s.surroundings := by
  unfold State.acknowledge; dsimp only; split <;> simp

@[simp] theorem State.setRequest_around (f : Func) (r : Request) : (s.setRequest f r).surroundings = s.surroundings := rfl

/-- The events of slots, arbiter, contexts, lamps and channels leave the surroundings alone, up to what follows from them. -/
theorem State.eventOf_around {c : Instr} {b : Bool} (hc : c ∈ slotEvents ∨ c ∈ outputEvents)
    (h : s.eventOf c = some (b, u)) : u.surroundings = s.surroundings := by
  cases c <;> cases h
  case holderLapse | watchLapse | runLimitExpiry | holdTimerExpiry | runDownEnd | profileUpdate | overloadExpiry | primeLimit
      | stuckWatchExpiry | stepTimerExpiry | sequenceLapse | pauseTimerExpiry | phaseTimerExpiry | trailTimerExpiry
      | leadReached | pwmPeriodStart => simp
  all_goals
    exact absurd hc (by simp [slotEvents, outputEvents])

/-! ### The device state -/

@[simp] theorem State.acknowledge_deviceState (k : FaultKind) (v : Subject) :
    (s.acknowledge k v).device.state = s.device.state := by
  unfold State.acknowledge; dsimp only; split <;> simp

@[simp] theorem State.profileUpdate_deviceState : s.profileUpdate.device.state = s.device.state := by
  obtain ⟨-, h⟩ | ⟨-, h⟩ | h := s.profileUpdate_cases <;> rw [h]
  · exact State.updateRunning_deviceState _
  · exact State.updateSettling_deviceState _

@[simp] theorem State.reachPrimeLimit_deviceState (a : Actuator) :
    (s.reachPrimeLimit a).device.state = s.device.state := by
  unfold State.reachPrimeLimit; split <;> simp

@[simp] theorem State.stuckExpired_deviceState : s.stuckExpired.device.state = s.device.state := by
  unfold State.stuckExpired; split <;> rfl

@[simp] theorem State.enterStopped_deviceState : s.enterStopped.device.state = .stopped := by
  unfold State.enterStopped; dsimp only
  rw [foldl_keeps (fun s : State => s.device.state) _ (fun s a => s.stopSlot_deviceState a)]
  simp

/-- STOPPED entry is the one change of the device state inside a step, and it leaves READY (R149). -/
def DeviceState.MayStop (d d' : DeviceState) : Prop := d' = d ∨ (d = .ready ∧ d' = .stopped)

theorem DeviceState.MayStop.trans {d d' d'' : DeviceState} (h : d.MayStop d') (h' : d'.MayStop d'') : d.MayStop d'' := by
  obtain rfl | ⟨rfl, rfl⟩ := h
  · exact h'
  · obtain rfl | ⟨h, -⟩ := h'
    · exact .inr ⟨rfl, rfl⟩
    · cases h

/-- Outside READY the device state stands. -/
theorem DeviceState.MayStop.eq {d d' : DeviceState} (h : d.MayStop d') (hd : d ≠ .ready) : d' = d :=
  h.resolve_right fun ⟨hready, _⟩ => hd hready

/-- A part that is READY was READY. -/
theorem DeviceState.MayStop.ready {d d' : DeviceState} (h : d.MayStop d') (hd : d' = .ready) : d = .ready := by
  obtain rfl | ⟨-, h⟩ := h
  · exact hd
  · rw [hd] at h; cases h

theorem State.movementRule_deviceState : s.device.state.MayStop s.movementRule.device.state := by
  unfold State.movementRule
  split
  · next h =>
    simp only [Bool.and_eq_true, decide_eq_true_eq] at h
    exact .inr ⟨h.1.1, by simp⟩
  · exact .inl rfl

theorem State.estopChanged_deviceState : s.device.state.MayStop s.estopChanged.device.state := by
  unfold State.estopChanged; dsimp only
  split
  · exact .inl rfl
  split
  · split
    · next h => exact .inr ⟨h, by simp⟩
    · split <;> exact .inl rfl
  · split <;> exact .inl rfl

theorem State.inputChanged_deviceState (i : Input) : s.device.state.MayStop (s.inputChanged i).device.state := by
  unfold State.inputChanged
  split
  · exact State.estopChanged_deviceState
  · exact .inl (by simp)
  · exact .inl rfl

theorem State.take_deviceState (x : Arrival) : s.device.state.MayStop (s.take x).device.state := by
  cases x
  case movement => exact State.movementRule_deviceState
  all_goals exact .inl (by simp [State.take])

theorem State.finish_deviceState (s : State) : s.device.state.MayStop s.finish.device.state :=
  State.finish_keeps (fun t => s.device.state.MayStop t.device.state) (fun t h => by rw [t.derive_deviceState]; exact h)
    (fun t x h => h.trans (t.take_deviceState x)) (fun _ _ h => h) s (.inl rfl)

/-- The dormancy test enters DORMANT, or does nothing. -/
theorem State.testDormancy_cases : s.testDormancy = s ∨ (s.mayDoze = true ∧ s.testDormancy = s.enterDormant) := by
  unfold State.testDormancy; split
  · next h => exact .inr ⟨h, rfl⟩
  · exact .inl rfl

@[simp] theorem State.enterDormant_deviceState : s.enterDormant.device.state = .dormant := rfl

/-- An event leaves the device state, stops a READY part, or ends in DORMANT. -/
theorem State.finishEvent_deviceState (s : State) :
    s.device.state.MayStop s.finishEvent.device.state ∨ s.finishEvent.device.state = .dormant := by
  unfold State.finishEvent
  obtain h | ⟨-, h⟩ := s.finish.testDormancy_cases <;> rw [h]
  · exact .inl s.finish_deviceState
  · exact .inr rfl

/-! ### Resets -/

@[simp] theorem State.resetPart_deviceState (k : ResetKind) : (s.resetPart k).device.state = .startup := rfl

/-- A reset has ended with `k` among every link's causes and the straps' plan of `s` in force (R158, R159, R174). -/
structure State.Reset (s t : State) (k : ResetKind) : Prop where
  state : t.device.state = .startup
  tables : t.tables = defaultTables
  counter : t.counter = 0
  links : t.links = (s.resetPart k).links

theorem State.resetPart_reset (k : ResetKind) : s.Reset (s.resetPart k) k := ⟨rfl, rfl, rfl, rfl⟩

/-- What follows from a reset leaves it one: STARTUP is not left, nor the surroundings. -/
theorem State.Reset.finishEvent {k : ResetKind} (h : s.Reset t k) : s.Reset t.finishEvent k := by
  have hd : t.finish.device.state = .startup := by
    rw [t.finish_deviceState.eq (by rw [h.state]; decide), h.state]
  have hf : t.finishEvent = t.finish := by
    unfold State.finishEvent
    obtain h | ⟨hdoze, -⟩ := t.finish.testDormancy_cases
    · exact h
    · have := (State.mayDoze_iff.1 hdoze).1
      rw [hd] at this
      simp at this
  have ha := t.finish_around
  rw [hf]
  exact ⟨hd, (State.tables_of_around ha).trans h.tables, (congrArg Surroundings.counter ha).trans h.counter,
    (State.links_of_around ha).trans h.links⟩

theorem addCause_self (k : ResetKind) (causes : Table Bool 5) : (addCause k causes).get k.ix = true := by
  unfold addCause; split
  · next h => subst h; decide
  · simp

theorem State.Reset.cause {k : ResetKind} (h : s.Reset t k) (l : Link) : (t.link l).causes.get k.ix = true := by
  simp [State.link, h.links, State.resetPart, State.latchRoles, State.resetBlocks, resetLink, addCause_self]

theorem State.Reset.role {k : ResetKind} (h : s.Reset t k) (l : Link) :
    (t.link l).role = rolePlan s.pins.strap1 s.pins.strap0 l := by
  simp [State.link, h.links, State.resetPart, State.latchRoles, State.resetBlocks]

end Sys2Proof.Machine

/-! The power cutoff and the stop on ESTOP through every step (R136, R145). -/

namespace Sys2Proof.Machine

variable {s t u : State}

/-! ### What is derived last -/

/-- A property of every derived state holds at the end of a step's hand-offs, whatever the arrivals do between. -/
theorem State.settle_of_derive (P : State → Prop) (hd : ∀ u : State, P u.derive)
    (ha : ∀ (u : State) xs, P u → P { u with agenda := xs }) (n : Nat) (s : State) (h : P s) : P (State.settle n s) := by
  induction n generalizing s with
  | zero => exact h
  | succ n ih =>
    unfold State.settle
    split
    · exact h
    · exact ih _ (ha _ _ (hd _))

theorem State.finish_of_derive (P : State → Prop) (hd : ∀ u : State, P u.derive)
    (ha : ∀ (u : State) xs, P u → P { u with agenda := xs }) (s : State) : P s.finish :=
  State.settle_of_derive P hd ha _ _ (hd s)

/-! ### The cutoff -/

/-- A channel is not driven: it is OFF or TRIPPED (R131). -/
def ChanDrive.undriven (d : ChanDrive) : Prop := d = .off ∨ d = .tripped

theorem ChanRec.take_off_undriven (r : ChanRec) : (r.take .off).drive.undriven := by
  unfold ChanRec.take ChanDrive.undriven
  cases h : r.drive <;> simp [h]

theorem State.cutoff_congr (hd : t.device.state = s.device.state) (he : t.asserted .estop = s.asserted .estop) :
    t.cutoff = s.cutoff := by
  unfold State.cutoff; rw [hd, he]

/-- The cutoff is safe where the map, the device state and ESTOP stand, and every undriven channel stays undriven. -/
theorem State.PowerSafe.congr (hm : t.tables.outputMap = s.tables.outputMap) (hd : t.device.state = s.device.state)
    (he : t.asserted .estop = s.asserted .estop) (hc : ∀ c, (s.chan c).drive.undriven → (t.chan c).drive.undriven)
    (h : s.PowerSafe) : t.PowerSafe := fun c f hmap hf hcut =>
  hc c (h c f (hm ▸ hmap) hf (by rw [← State.cutoff_congr hd he]; exact hcut))

theorem State.PowerSafe.of_undriven (h : ∀ c, (s.chan c).drive.undriven) : s.PowerSafe := fun c _ _ _ _ => h c

/-- Deriving takes every power function's channel OFF under the cutoff (R136). -/
theorem State.derive_powerSafe (s : State) : s.derive.PowerSafe := by
  intro c f hmap hf hcut
  let v := s.deriveHatches.deriveConds.deriveLamps.deriveReady.deriveRequests
  have hchan : s.derive.chan c = (v.chan c).take (v.channelWants c) := Table.get_ofFn _ c
  have hwants : v.channelWants c = .off := by
    have hmap' : v.tables.outputMap.get c = some f := hmap
    have hcut' : v.cutoff = true := hcut
    unfold State.channelWants
    rw [hmap']
    simp [hf, hcut']
  rw [hchan, hwants]
  exact ChanRec.take_off_undriven _

theorem State.finish_powerSafe (s : State) : s.finish.PowerSafe :=
  State.finish_of_derive State.PowerSafe State.derive_powerSafe (fun _ _ h => h) s

theorem State.finishEvent_powerSafe (s : State) : s.finishEvent.PowerSafe := by
  unfold State.finishEvent
  obtain h | ⟨-, h⟩ := s.finish.testDormancy_cases <;> rw [h]
  · exact s.finish_powerSafe
  · refine .of_undriven fun c => ?_
    have : s.finish.enterDormant.chan c = (s.finish.chan c).take .off := by simp [State.chan, State.enterDormant]
    rw [this]
    exact ChanRec.take_off_undriven _

theorem State.resetBlocks_powerSafe (k : ResetKind) : (s.resetBlocks k).PowerSafe :=
  .of_undriven fun c => .inl (by simp [State.chan, State.resetBlocks, State.reset, resetBank, resetChan])

theorem State.resetPart_powerSafe (k : ResetKind) : (s.resetPart k).PowerSafe :=
  .of_undriven fun c =>
    .inl (by simp [State.chan, State.resetPart, State.latchRoles, State.resetBlocks, State.reset, resetBank, resetChan])

/-! ### ESTOP at the pins and the inputs -/

/-- A change at a pin settles no input (R44). -/
theorem State.debounced_setLevel (i j : Input) (d : Drive) (level : Bool) :
    ((s.setLevel i d level).input j).debounced = (s.input j).debounced := by
  have hset : ∀ r : InputRec, r.debounced = (s.input i).debounced →
      ((s.setInput i r).input j).debounced = (s.input j).debounced := by
    intro r hr
    rw [State.input_setInput]
    split
    · next h => subst h; exact hr
    · rfl
  unfold State.setLevel State.watchIgn
  dsimp only
  repeat' split
  all_goals exact hset _ rfl

theorem State.setLevel_rest (i : Input) (d : Drive) (level : Bool) : s.setLevel i d level = { s with
    inputs := (s.setLevel i d level).inputs
    device := { s.device with ignWatch := (s.setLevel i d level).device.ignWatch } } := by
  unfold State.setLevel State.watchIgn; dsimp only; repeat' split
  all_goals rfl

/-- A change at a pin touches the pins, the inputs, the watch on IGN and the draws, and nothing else (R43, R156). -/
theorem State.changePin_rest (p : Pin) (d : Drive) : s.changePin p d = { s with
    pins := (s.changePin p d).pins, inputs := (s.changePin p d).inputs
    device := { s.device with ignWatch := (s.changePin p d).device.ignWatch }, draws := s.draws + 1 } := by
  cases p
  case input i => unfold State.changePin State.drivePin; dsimp only; rw [State.setLevel_rest]
  all_goals rfl

theorem State.asserted_changePin (p : Pin) (d : Drive) (i : Input) : (s.changePin p d).asserted i = s.asserted i := by
  have hset : (s.changePin p d).tables = s.tables := by rw [State.changePin_rest]
  have hdeb : ((s.changePin p d).input i).debounced = (s.input i).debounced := by
    cases p
    case input j =>
      exact State.debounced_setLevel j i d _
    all_goals rfl
  unfold State.asserted State.asserted? State.setup
  rw [hdeb, hset]

/-- Settling an input that is not ESTOP, nor beside it, leaves ESTOP as it is (R44). -/
theorem State.asserted_settle {i j : Input} (h : j ≠ i) (ho : otherSwitch i ≠ some j) :
    ((s.settleOther i).settleInput i).asserted j = s.asserted j := by
  have hinput := s.settle_input h ho
  obtain ⟨x, hx⟩ := s.settle_inputs i
  have ht : ((s.settleOther i).settleInput i).tables = s.tables := by rw [hx]
  unfold State.asserted State.asserted? State.setup
  rw [hinput, ht]

/-! ### READY is left on ESTOP -/

/-- READY is left on ESTOP where it was, while ESTOP stands and no other state becomes READY. -/
theorem State.StopsOnEstop.congr (hd : s.device.state.MayStop t.device.state)
    (he : t.asserted .estop = s.asserted .estop) (h : s.StopsOnEstop) : t.StopsOnEstop := fun hready =>
  he.trans (h (hd.ready hready))

theorem State.StopsOnEstop.around (hd : s.device.state.MayStop t.device.state) (ha : t.surroundings = s.surroundings)
    (h : s.StopsOnEstop) : t.StopsOnEstop :=
  h.congr hd (State.asserted_congr (State.inputs_of_around ha) (State.tables_of_around ha) _)

theorem State.StopsOnEstop.of_ne (h : s.device.state ≠ .ready) : s.StopsOnEstop := fun hready => absurd hready h

theorem State.StopsOnEstop.finish (h : s.StopsOnEstop) : s.finish.StopsOnEstop :=
  h.around s.finish_deviceState s.finish_around

theorem State.StopsOnEstop.finishEvent (h : s.StopsOnEstop) : s.finishEvent.StopsOnEstop := by
  unfold State.finishEvent
  obtain e | ⟨-, e⟩ := s.finish.testDormancy_cases <;> rw [e]
  · exact h.finish
  · exact .of_ne (by simp)

/-- A change of ESTOP at the Device State Controller leaves READY where it is asserted (R145). -/
theorem State.estopChanged_stops (s : State) : s.estopChanged.StopsOnEstop := by
  intro hready
  have hs : s.device.state = .ready := s.estopChanged_deviceState.ready hready
  cases he : s.asserted .estop with
  | false =>
    have ha := s.estopChanged_around
    rw [State.asserted_congr (State.inputs_of_around ha) (State.tables_of_around ha), he]
  | true =>
    exfalso
    revert hready
    unfold State.estopChanged
    have hawake : s.awake = true := by simp [State.awake, hs]
    simp [hawake, he, hs]

theorem State.debounced_stops (i : Input) (h : s.StopsOnEstop) : (s.debounced i).StopsOnEstop := by
  unfold State.debounced
  obtain ⟨x, hx⟩ := s.settle_inputs i
  by_cases hi : i = .estop
  · subst hi; exact State.estopChanged_stops _
  · have ho : otherSwitch i ≠ some .estop := by cases i <;> decide
    have hs : ((s.settleOther i).settleInput i).StopsOnEstop :=
      h.congr (.inl (by rw [hx])) (State.asserted_settle (Ne.symm hi) ho)
    exact hs.around (State.inputChanged_deviceState i) (State.inputChanged_around _ i)

/-- At the end of STARTUP a configured part with ESTOP asserted is STOPPED (R144). -/
theorem State.endStartup_stops : s.endStartup.StopsOnEstop := by
  intro hready
  have he : s.endStartup.asserted .estop = s.asserted .estop :=
    State.asserted_congr (by rw [State.endStartup_rest]) (by rw [State.endStartup_rest]) _
  have hstate : s.endStartup.device.state = s.stateAfterStartup := by rw [State.endStartup_rest]
  rw [he]
  rw [hstate] at hready
  unfold State.stateAfterStartup at hready
  cases h : s.asserted .estop
  · rfl
  · rw [h] at hready
    repeat' split at hready
    all_goals simp_all

theorem State.takeSpeed_asserted : s.takeSpeed.asserted .estop = s.asserted .estop := by
  have hinput : s.takeSpeed.input .estop = s.input .estop := by
    unfold State.takeSpeed State.trackEdge; dsimp only; repeat' split
    all_goals exact (s.input_setInput .speed .estop _).trans (by simp)
  have ht : s.takeSpeed.tables = s.tables := by rw [State.takeSpeed_rest]
  unfold State.asserted State.asserted? State.setup
  rw [hinput, ht]

/-- An event's effect keeps the stop on ESTOP. -/
theorem State.eventOf_stops {c : Instr} {b : Bool} (h : s.StopsOnEstop) (hc : s.eventOf c = some (b, u)) :
    u.StopsOnEstop := by
  have hreset : ∀ (v : State) k, (v.resetPart k).StopsOnEstop := fun v k => .of_ne (by simp)
  cases c <;> cases hc
  case replySent l =>
    unfold State.replySent; split
    · exact hreset s _
    · exact h
  case replyDropped l =>
    unfold State.replyDropped; split
    · exact hreset s _
    · exact h
  case wakeStartBit | wakeIgn | wakeLine | ownerLapse => exact .of_ne (by simp [State.wake, State.lapseOwner])
  case debounceSettle i => exact State.debounced_stops i h
  case speedEdge => exact h.congr (.inl (by rw [State.takeSpeed_rest])) State.takeSpeed_asserted
  case startupEnd => exact State.endStartup_stops
  case captureRisingEdge m => rw [State.risingEdge_rest]; exact h
  case captureFallingEdge m => rw [State.fallingEdge_rest]; exact h
  case batterySample mv =>
    obtain ⟨v, -, e⟩ | ⟨v, xs, e⟩ := s.takeSample_cases mv.toNat <;> rw [e]
    · exact hreset v _
    · exact h
  case clockComparison count =>
    obtain e | e := s.compareClock_cases count <;> rw [e]
    · exact hreset s _
    · exact h
  case lampProveTest n x => rw [State.proveLamp_rest]; exact h
  case openLoadTest k x => rw [State.testOpenLoad_rest]; exact h
  case gapTimerExpiry | replyStart | quietTimerExpiry | lostExpiry | dormancyTimerExpiry | wakeDriveEnd | phaseTimerExpiry
      | trailTimerExpiry | leadReached | shortTrip | pwmPeriodStart => exact h
  all_goals exact h.around (.inl (by simp)) (by simp)

/-! ### Requests -/

/-- Every request but CONFIG_WRITE leaves the surroundings alone, up to what follows from it. -/
theorem State.RequestEffect.around {l : Link} {c : Instr} {e : State} (h : u.RequestEffect l c e)
    (hc : ∀ l tag ps, c ≠ .configWrite l tag ps) : e.surroundings = u.surroundings := by
  cases h
  case configWrite => exact absurd rfl (hc _ _ _)
  all_goals first
    | simp
    | rfl

/-- A write of a record that is not an input's leaves the device as it is. -/
theorem State.writeRecord_deviceState (r : Record) : u.device.state.MayStop (u.writeRecord r).device.state := by
  cases r
  case inputSetup i r =>
    unfold State.writeRecord State.writeInput; dsimp only; split
    · exact State.inputChanged_deviceState _
    · exact .inl rfl
  all_goals exact .inl rfl

theorem State.RequestEffect.stops {l : Link} {c : Instr} {e : State} (h : u.RequestEffect l c e)
    (hu : u.StopsOnEstop) : e.StopsOnEstop := by
  cases h
  case resume hstate hclear =>
    intro _
    have : u.asserted? .estop = some false := of_decide_eq_true hclear
    exact decide_eq_false (by rw [State.setDeviceState]; exact fun h => by cases this.symm.trans h)
  case configEnter => exact .of_ne (by simp [State.enterConfig])
  case configWrite r hconfig howner =>
    exact .of_ne (by rw [(u.writeRecord_deviceState r).eq (by rw [hconfig]; decide), hconfig]; decide)
  case configCommit =>
    intro hready
    cases he : u.asserted .estop
    · exact he
    · simp [State.commit, he] at hready
  case stopAll => exact .of_ne (by simp)
  case setLamp | clearLamp | output | hold | move | seqStart => exact hu
  all_goals exact hu.around (.inl (by simp)) (by simp)

theorem State.Answered.stops {l : Link} {c : Instr} (h : u.Answered l c t) (hu : u.StopsOnEstop) : t.StopsOnEstop := by
  cases h
  case followed e he => exact (he.stops hu).finish
  all_goals exact hu

theorem State.Answered.powerSafe {l : Link} {c : Instr} (h : u.Answered l c t) (hu : u.PowerSafe) : t.PowerSafe := by
  cases h
  case followed e he => exact e.finish_powerSafe
  all_goals exact hu

/-! ### Every step -/

theorem State.Leads.powerSafe {c : Instr} (h : s.Leads c t) (hs : s.PowerSafe) : t.PowerSafe := by
  cases h
  case stays | receives => exact hs
  case answered r u res data b _ _ hu =>
    have hframe : (s.withFrame r.link).PowerSafe := hs
    exact hu.powerSafe hframe
  case wakes drives _ => exact State.finish_powerSafe _
  case restarts => exact State.resetPart_powerSafe _
  case happens u _ => exact State.finishEvent_powerSafe _
  case powerOn =>
    unfold State.powerOn; split
    · exact State.resetBlocks_powerSafe _
    · exact State.resetPart_powerSafe _
  case pinReset =>
    unfold State.pinReset; split
    · exact hs
    · exact State.resetBlocks_powerSafe (s := s) .pin
  case release => unfold State.resetbRelease; split <;> exact hs
  case pin p d =>
    have hc : ∀ c, (s.changePin p d).chan c = s.chan c := fun c => by rw [State.changePin_rest]; rfl
    refine hs.congr (by rw [State.changePin_rest]) (by rw [State.changePin_rest]) (State.asserted_changePin p d _) ?_
    intro c h; rw [hc c]; exact h

theorem State.Leads.stops {c : Instr} (h : s.Leads c t) (hs : s.StopsOnEstop) : t.StopsOnEstop := by
  cases h
  case stays | receives => exact hs
  case answered r u res data b _ _ hu =>
    have hframe : (s.withFrame r.link).StopsOnEstop := hs
    exact hu.stops hframe
  case wakes drives _ => exact (State.StopsOnEstop.of_ne (by simp [State.wake])).finish
  case restarts => exact .of_ne (by simp)
  case happens u hc => exact (State.eventOf_stops hs hc).finishEvent
  case powerOn =>
    unfold State.powerOn; split
    · exact .of_ne (by simp [State.resetBlocks, State.reset, resetDevice])
    · exact .of_ne (by simp)
  case pinReset =>
    unfold State.pinReset; split
    · exact hs
    · exact .of_ne (by simp [State.resetBlocks, State.reset, resetDevice])
  case release => unfold State.resetbRelease; split <;> exact hs
  case pin p d => exact hs.congr (.inl (by rw [State.changePin_rest])) (State.asserted_changePin p d _)

/-- A tick moves timers alone: levels, tables and drives stand. -/
theorem State.asserted_tick (i : Input) : s.tick.asserted i = s.asserted i := by
  unfold State.tick
  split
  · rfl
  · unfold State.asserted State.asserted? State.input State.setup State.advance InputRec.tick
    simp

@[simp] theorem State.tick_deviceState : s.tick.device.state = s.device.state := by
  unfold State.tick; split <;> rfl

@[simp] theorem State.tick_tables : s.tick.tables = s.tables := by
  unfold State.tick; split <;> rfl

theorem State.tick_drive (c : Chan) : (s.tick.chan c).drive = (s.chan c).drive := by
  unfold State.tick
  split
  · rfl
  · unfold State.chan State.advance ChanRec.tick
    simp

/-- Settles O59: what a step derives last takes power off under the cutoff, and of all effects only ESTOP's change, RESUME, a
commit and the end of STARTUP bear on READY with ESTOP, each of which reads the input. -/
theorem stepKeepsTheStop : Obligations.StepKeepsTheStop := by
  intro s t hstep
  obtain ⟨-, rfl⟩ | ⟨c, rest, -, hleads⟩ := step_leads hstep
  · refine ⟨fun h => h.congr (by simp) (by simp) (State.asserted_tick _) fun c hc => ?_,
      fun h => h.congr (.inl (by simp)) (State.asserted_tick _)⟩
    rw [State.tick_drive]; exact hc
  · exact ⟨fun h => hleads.powerSafe h, fun h => hleads.stops h⟩

end Sys2Proof.Machine

/-! The fault table and the capture channels through every step (R160 to R168, R62 to R78). -/

namespace Sys2Proof.Machine

variable {s t u : State}

/-! ### Entries -/

/-- What soundness asks of one entry (R160, R162). -/
def FaultEntry.Sound (e : FaultEntry) : Prop :=
  1 ≤ e.count ∧ e.count ≤ 255 ∧ (e.active = true → e.kind.isCondition = true)

/-- What soundness asks of a list of entries. -/
def EntriesSound (es : List FaultEntry) : Prop :=
  es.length ≤ 16 ∧ es.Pairwise (fun e e' => ¬(e.kind = e'.kind ∧ e.subject = e'.subject)) ∧ ∀ e ∈ es, e.Sound

theorem entriesSound_nil : EntriesSound [] := ⟨Nat.zero_le _, .nil, fun _ h => nomatch h⟩

theorem FaultTable.sound_iff (t : FaultTable) : t.Sound ↔ EntriesSound t.entries := Iff.rfl

theorem EntriesSound.sublist {es es' : List FaultEntry} (h : EntriesSound es) (hsub : es'.Sublist es) : EntriesSound es' :=
  ⟨hsub.length_le.trans h.1, h.2.1.sublist hsub, fun e he => h.2.2 e (hsub.subset he)⟩

/-- An operation at each entry that keeps its name and its soundness keeps the list's. -/
theorem EntriesSound.map {es : List FaultEntry} {f : FaultEntry → FaultEntry} (h : EntriesSound es)
    (hname : ∀ e, (f e).kind = e.kind ∧ (f e).subject = e.subject) (hsound : ∀ e, e.Sound → (f e).Sound) :
    EntriesSound (es.map f) := by
  obtain ⟨hlen, hpair, hall⟩ := h
  refine ⟨by simpa using hlen, ?_, ?_⟩
  · rw [List.pairwise_map]
    refine hpair.imp fun {e e'} hne => ?_
    rw [(hname e).1, (hname e').1, (hname e).2, (hname e').2]
    exact hne
  · intro e he
    obtain ⟨x, hx, rfl⟩ := List.mem_map.1 he
    exact hsound x (hall x hx)

theorem FaultEntry.fresh_sound (k : FaultKind) (v : Subject) : (FaultEntry.fresh k v).Sound :=
  ⟨Nat.le_refl 1, by simp [FaultEntry.fresh], fun h => h⟩

theorem FaultEntry.again_sound {e : FaultEntry} (h : e.Sound) : e.again.Sound := by
  obtain ⟨h1, h2, h3⟩ := h
  refine ⟨?_, Nat.min_le_left _ _, fun hact => ?_⟩
  · simp only [FaultEntry.again]; omega
  · simp only [FaultEntry.again, Bool.or_eq_true] at hact ⊢
    exact hact.elim h3 id

/-- A new entry keeps a list sound that has room and holds none of its name. -/
theorem EntriesSound.append {es : List FaultEntry} (h : EntriesSound es) (hroom : es.length < 16) (k : FaultKind)
    (v : Subject) (habsent : ∀ e ∈ es, e.isFor k v = false) : EntriesSound (es ++ [.fresh k v]) := by
  obtain ⟨-, hpair, hall⟩ := h
  refine ⟨by simp; omega, ?_, ?_⟩
  · refine List.pairwise_append.2 ⟨hpair, List.pairwise_singleton _ _, fun e he e' he' hsame => ?_⟩
    rw [List.mem_singleton.1 he'] at hsame
    have : e.isFor k v = true := (e.isFor_iff k v).2 hsame
    rw [habsent e he] at this
    cases this
  · intro e he
    obtain he | he := List.mem_append.1 he
    · exact hall e he
    · rw [List.mem_singleton.1 he]; exact FaultEntry.fresh_sound k v

/-! ### The operations of the fault table -/

theorem State.removeEntry_sound (h : s.faults.Sound) (k : FaultKind) (v : Subject) : (s.removeEntry k v).faults.Sound := by
  rw [FaultTable.sound_iff, State.entries_removeEntry]
  exact EntriesSound.sublist h List.filter_sublist

theorem State.removeEntries_sound (h : s.faults.Sound) (es : List FaultEntry) : (s.removeEntries es).faults.Sound := by
  rw [FaultTable.sound_iff, State.entries_removeEntries]
  exact EntriesSound.sublist h List.filter_sublist

/-- The entry a full table gives up stands in it (R166). -/
theorem State.evictable_mem {e : FaultEntry} (h : s.evictable = some e) : e ∈ s.faults.entries := by
  unfold State.evictable at h
  split at h
  · next hfind => cases h; exact List.mem_of_find?_eq_some hfind
  · exact List.mem_of_find?_eq_some h

theorem State.hasEntry_eq_false {k : FaultKind} {v : Subject} :
    s.hasEntry k v = false ↔ ∀ e ∈ s.faults.entries, e.isFor k v = false := by
  unfold State.hasEntry
  rw [List.any_eq_false]
  simp

theorem State.takeOccurrence_sound (h : s.faults.Sound) (k : FaultKind) (v : Subject) :
    (s.takeOccurrence k v).faults.Sound := by
  unfold State.takeOccurrence
  split
  · refine EntriesSound.map h (fun e => ?_) (fun e he => ?_) <;> split
    · exact ⟨rfl, rfl⟩
    · exact ⟨rfl, rfl⟩
    · exact FaultEntry.again_sound he
    · exact he
  next habsent =>
  have habsent := State.hasEntry_eq_false.1 (Bool.eq_false_iff.2 habsent)
  split
  · next hroom => exact EntriesSound.append h hroom k v habsent
  next hfull =>
  split
  · next e he =>
    have hmem := State.evictable_mem he
    have hself : e.isFor e.kind e.subject = true := (e.isFor_iff _ _).2 ⟨rfl, rfl⟩
    have hentries := s.entries_removeEntry e.kind e.subject
    refine EntriesSound.append (State.removeEntry_sound h e.kind e.subject) ?_ k v ?_ <;> rw [hentries]
    · have hlt : (s.faults.entries.filter fun x => !x.isFor e.kind e.subject).length < s.faults.entries.length :=
        List.length_filter_lt_length_iff_exists.2 ⟨e, hmem, by simp [hself]⟩
      exact Nat.lt_of_lt_of_le hlt h.1
    · exact fun x hx => habsent x (List.mem_of_mem_filter hx)
  · exact h

theorem State.takeConditionEnd_sound (h : s.faults.Sound) (k : FaultKind) (v : Subject) :
    (s.takeConditionEnd k v).faults.Sound := by
  unfold State.takeConditionEnd
  split
  case h_2 => exact h
  split
  · exact h
  split
  · exact State.removeEntry_sound h k v
  · refine EntriesSound.map h (fun e => ?_) (fun e he => ?_) <;> split
    · exact ⟨rfl, rfl⟩
    · exact ⟨rfl, rfl⟩
    · exact ⟨he.1, he.2.1, fun h => by cases h⟩
    · exact he

theorem State.setEntries_sound {es : List FaultEntry} (h : EntriesSound es) : (s.setEntries es).faults.Sound := h

theorem State.acknowledge_sound (h : s.faults.Sound) (k : FaultKind) (v : Subject) :
    (s.acknowledge k v).faults.Sound := by
  have hmarked : EntriesSound (s.faults.entries.map fun e => if e.isFor k v then { e with acked := true } else e) := by
    refine EntriesSound.map h (fun e => ?_) (fun e he => ?_) <;> split
    · exact ⟨rfl, rfl⟩
    · exact ⟨rfl, rfl⟩
    · exact he
    · exact he
  unfold State.acknowledge
  dsimp only
  split
  · exact State.removeEntry_sound (State.setEntries_sound hmarked) k v
  · exact hmarked

theorem State.acknowledgeAll_sound (h : s.faults.Sound) : s.acknowledgeAll.faults.Sound :=
  State.removeEntries_sound (State.setEntries_sound (EntriesSound.map (f := fun e => { e with acked := true }) h (fun _ => ⟨rfl, rfl⟩) fun _ he => he)) _

/-! ### The fault table through a step -/

theorem State.take_faultsSound (x : Arrival) (h : s.faults.Sound) : (s.take x).faults.Sound := by
  cases x
  case occurrence k v => exact State.takeOccurrence_sound h k v
  case conditionEnd k v => exact State.takeConditionEnd_sound h k v
  all_goals simpa [State.take] using h

theorem State.finish_faultsSound (h : s.faults.Sound) : s.finish.faults.Sound :=
  State.finish_keeps (fun t => t.faults.Sound) (fun t h => by rw [t.derive_faultTable]; exact h)
    (fun t x h => t.take_faultsSound x h) (fun _ _ h => h) s h

theorem State.finishEvent_faultsSound (h : s.faults.Sound) : s.finishEvent.faults.Sound := by
  unfold State.finishEvent
  obtain e | ⟨-, e⟩ := s.finish.testDormancy_cases <;> rw [e] <;> exact State.finish_faultsSound h

theorem State.resetPart_faultsSound (k : ResetKind) : (s.resetPart k).faults.Sound :=
  entriesSound_nil

theorem State.resetBlocks_faultsSound (k : ResetKind) : (s.resetBlocks k).faults.Sound :=
  entriesSound_nil

@[simp] theorem State.profileUpdate_faultTable : s.profileUpdate.faults = s.faults := by
  obtain ⟨-, h⟩ | ⟨-, h⟩ | h := s.profileUpdate_cases <;> rw [h]
  · exact State.updateRunning_faultTable _
  · exact State.updateSettling_faultTable _

@[simp] theorem State.reachPrimeLimit_faultTable (a : Actuator) : (s.reachPrimeLimit a).faults = s.faults := by
  unfold State.reachPrimeLimit; split <;> simp

@[simp] theorem State.stuckExpired_faultTable : s.stuckExpired.faults = s.faults := by
  unfold State.stuckExpired; split <;> rfl

@[simp] theorem State.debounced_faultTable (i : Input) : (s.debounced i).faults = s.faults := by
  obtain ⟨x, hx⟩ := s.settle_inputs i
  unfold State.debounced
  rw [State.inputChanged_faultTable, hx]

/-- An event posts its occurrences as arrivals: its own effect leaves the entries alone, or resets the part. -/
theorem State.eventOf_faults {c : Instr} {b : Bool} (hc : s.eventOf c = some (b, u)) :
    u.faults = s.faults ∨ u.faults.Sound := by
  cases c <;> cases hc
  case replySent l =>
    unfold State.replySent; split
    · exact .inr (State.resetPart_faultsSound _)
    · exact .inl rfl
  case replyDropped l =>
    unfold State.replyDropped; split
    · exact .inr (State.resetPart_faultsSound _)
    · exact .inl rfl
  case speedEdge => exact .inl (by rw [State.takeSpeed_rest])
  case startupEnd => exact .inl (by rw [State.endStartup_rest])
  case captureRisingEdge m => exact .inl (by rw [State.risingEdge_rest])
  case captureFallingEdge m => exact .inl (by rw [State.fallingEdge_rest])
  case batterySample mv =>
    obtain ⟨v, -, e⟩ | ⟨v, xs, e⟩ := s.takeSample_cases mv.toNat <;> rw [e]
    · exact .inr (State.resetPart_faultsSound _)
    · exact .inl rfl
  case clockComparison count =>
    obtain e | e := s.compareClock_cases count <;> rw [e]
    · exact .inr (State.resetPart_faultsSound _)
    · exact .inl rfl
  case lampProveTest n x => exact .inl (by rw [State.proveLamp_rest])
  case openLoadTest k x => exact .inl (by rw [State.testOpenLoad_rest])
  case gapTimerExpiry | replyStart | wakeStartBit | wakeIgn | wakeLine | ownerLapse | quietTimerExpiry | lostExpiry
      | dormancyTimerExpiry | wakeDriveEnd | phaseTimerExpiry | trailTimerExpiry | leadReached | shortTrip
      | pwmPeriodStart => exact .inl rfl
  all_goals exact .inl (by simp)

@[simp] theorem State.writeRecord_faultTable (r : Record) : (u.writeRecord r).faults = u.faults := by
  cases r
  case inputSetup i r =>
    unfold State.writeRecord State.writeInput; dsimp only; split
    · simp
    · rfl
  all_goals rfl

theorem State.RequestEffect.faultsSound {l : Link} {c : Instr} {e : State} (h : u.RequestEffect l c e)
    (hu : u.faults.Sound) : e.faults.Sound := by
  cases h
  case ack k v => exact State.acknowledge_sound hu k v
  case ackAll => exact State.acknowledgeAll_sound hu
  case clearLamp | output | configEnter | configCommit => exact hu
  all_goals simpa using hu

theorem State.Leads.faultsSound {c : Instr} (h : s.Leads c t) (hs : s.faults.Sound) : t.faults.Sound := by
  cases h
  case stays | receives => exact hs
  case answered r u res data b _ _ hu =>
    change u.faults.Sound
    have hframe : (s.withFrame r.link).faults.Sound := hs
    cases hu
    case followed e he => exact State.finish_faultsSound (he.faultsSound hframe)
    all_goals exact hframe
  case wakes drives _ => exact State.finish_faultsSound hs
  case restarts => exact State.resetPart_faultsSound _
  case happens u hc =>
    obtain e | e := State.eventOf_faults hc
    · exact State.finishEvent_faultsSound (e ▸ hs)
    · exact State.finishEvent_faultsSound e
  case powerOn =>
    unfold State.powerOn; split
    · exact State.resetBlocks_faultsSound _
    · exact State.resetPart_faultsSound _
  case pinReset =>
    unfold State.pinReset; split
    · exact hs
    · exact State.resetBlocks_faultsSound (s := s) .pin
  case release => unfold State.resetbRelease; split <;> exact hs
  case pin p d => rw [State.changePin_rest]; exact hs

/-! ### The capture channels -/

/-- Soundness of a channel reads its window, its count, its validity and its reported value. -/
theorem Capture.Sound.congr {r r' : Capture} {span : Nat} (hw : r'.window = r.window) (hb : r'.bad = r.bad)
    (hv : r'.valid = r.valid) (hr : r'.reported = r.reported) (h : r.Sound span) : r'.Sound span := by
  unfold Capture.Sound at *
  rw [hw, hb, hv, hr]
  exact h

/-- A channel that has lost its window is INVALID (R69). -/
theorem Capture.sound_empty {r : Capture} {span : Nat} (hw : r.window = []) (hb : r.bad ≤ 3) (hv : r.valid = false)
    (hr : r.reported ≤ span) : r.Sound span := by
  refine ⟨by simp [hw], hb, by simp [hv, hw], by simp [hw], hr⟩

/-- An average of values does not pass their bound (R67). -/
theorem sum_div_length_le {w : List Nat} {span : Nat} (h : ∀ v ∈ w, v ≤ span) : w.sum / w.length ≤ span := by
  have hsum : w.sum ≤ w.length * span := by simpa using List.sum_le_card_nsmul w span h
  exact Nat.div_le_of_le_mul hsum

theorem mem_pushWindow {limit v x : Nat} {w : List Nat} (h : x ∈ pushWindow limit w v) : x ∈ w ∨ x = v := by
  simpa using List.mem_of_mem_drop h

theorem length_pushWindow_le (limit v : Nat) (w : List Nat) : (pushWindow limit w v).length ≤ limit := by
  unfold pushWindow
  simp only [List.length_drop, List.length_append, List.length_singleton]
  omega

theorem Capture.good_sound {r : Capture} {span v : Nat} (h : r.Sound span) (hv : v ≤ span) : (r.good v).Sound span := by
  obtain ⟨-, -, -, hwin, -⟩ := h
  have hall : ∀ x ∈ pushWindow 4 r.window v, x ≤ span := fun x hx =>
    (mem_pushWindow hx).elim (hwin x) fun e => e ▸ hv
  refine ⟨length_pushWindow_le _ _ _, by simp [Capture.good], ?_, hall, sum_div_length_le hall⟩
  simp [Capture.good, Capture.validNow]

theorem Capture.bump_sound {r : Capture} {span : Nat} (h : r.Sound span) (hbad : r.bump.bad < 3) : r.bump.Sound span := by
  obtain ⟨hlen, hb, hvalid, hwin, hrep⟩ := h
  unfold Capture.bump at *
  split at hbad
  · next hv =>
    have hfour := (hvalid.1 hv).1
    rw [if_pos hv]
    exact ⟨hlen, by simp at hbad ⊢; omega, by simp at hbad; simp [hv, hfour, hbad], hwin, hrep⟩
  · next hv =>
    rw [if_neg hv]
    exact Capture.sound_empty rfl (by simp) (by simpa using hv) hrep

theorem Capture.bump_bad {r : Capture} {span : Nat} (h : r.Sound span) : r.bump.bad ≤ 3 := by
  obtain ⟨-, -, hvalid, -, -⟩ := h
  unfold Capture.bump
  split
  · next hv => have := (hvalid.1 hv).2; simp; omega
  · simp

/-- A position does not pass its span (R65). -/
theorem dutyPosition_le (duty span : Nat) : dutyPosition duty span ≤ span := by
  unfold dutyPosition
  repeat' split
  · exact Nat.zero_le _
  · next h1 h2 =>
    refine Nat.div_le_of_le_mul ?_
    exact Nat.mul_le_mul_right span (by omega)
  · exact Nat.le_refl _

theorem State.captureValue_le {m : Sensor} {period v : Nat} {high : Option Nat}
    (h : s.captureValue m period high = some v) : v ≤ s.span m := by
  have hduty : ∀ span, dutyCapture span period high = some v → v ≤ span := by
    intro span h
    unfold dutyCapture at h
    split at h
    · dsimp only at h
      split at h
      · cases h; exact dutyPosition_le _ _
      · cases h
    · cases h
  cases m
  case height => exact hduty _ h
  case tilt => exact hduty _ h
  case pressure =>
    unfold State.captureValue pressureCapture at h
    dsimp only at h
    split at h
    · cases h; exact Nat.min_le_left _ _
    · cases h

/-! ### The channels through their operations -/

theorem State.span_congr (h : t.tables.scaling = s.tables.scaling) (m : Sensor) : t.span m = s.span m := by
  unfold State.span; rw [h]

theorem State.CapturesSound.congr (hc : t.captures = s.captures) (ht : t.tables.scaling = s.tables.scaling)
    (h : s.CapturesSound) : t.CapturesSound := by
  intro m
  rw [State.span_congr ht, State.capture, hc]
  exact h m

/-- One channel's sound record keeps them all sound. -/
theorem State.CapturesSound.setCapture (h : s.CapturesSound) {m : Sensor} {r : Capture} (hr : r.Sound (s.span m)) :
    (s.setCapture m r).CapturesSound := by
  intro k
  rw [State.span_congr (t := s.setCapture m r) (s := s) rfl, State.capture_setCapture]
  split
  · next e => exact e ▸ hr
  · exact h k

theorem State.CapturesSound.goodCapture (h : s.CapturesSound) {m : Sensor} {v : Nat} (hv : v ≤ s.span m) :
    (s.goodCapture m v).CapturesSound := by
  have hgood := Capture.good_sound (h m) hv
  unfold State.goodCapture
  refine State.CapturesSound.congr rfl rfl (h.setCapture ?_)
  split
  · exact hgood.congr rfl rfl rfl rfl
  · exact hgood

theorem State.CapturesSound.badCapture (h : s.CapturesSound) (m : Sensor) : (s.badCapture m).CapturesSound := by
  unfold State.badCapture
  dsimp only
  split
  · have hrep : (s.capture m).bump.reported ≤ s.span m := by
      have := (h m).2.2.2.2
      unfold Capture.bump; split <;> exact this
    exact State.CapturesSound.congr rfl rfl (h.setCapture (Capture.sound_empty rfl (Capture.bump_bad (h m)) rfl hrep))
  · next hfew => exact h.setCapture (Capture.bump_sound (h m) (by omega))

theorem State.CapturesSound.closePeriod (h : s.CapturesSound) (m : Sensor) : (s.closePeriod m).CapturesSound := by
  unfold State.closePeriod
  split
  · split
    · next hv => exact h.goodCapture (State.captureValue_le hv)
    · exact h.badCapture m
  · exact h

theorem State.CapturesSound.risingEdge (h : s.CapturesSound) (m : Sensor) : (s.risingEdge m).CapturesSound :=
  (h.closePeriod m).setCapture ((h.closePeriod m m).congr rfl rfl rfl rfl)

theorem State.CapturesSound.fallingEdge (h : s.CapturesSound) (m : Sensor) : (s.fallingEdge m).CapturesSound := by
  unfold State.fallingEdge
  dsimp only
  split
  · exact h.setCapture ((h m).congr rfl rfl rfl rfl)
  · exact h

theorem State.CapturesSound.loseSensor (h : s.CapturesSound) (m : Sensor) : (s.loseSensor m).CapturesSound :=
  State.CapturesSound.congr rfl rfl (h.setCapture (Capture.sound_empty rfl (Nat.zero_le _) rfl (h m).2.2.2.2))

theorem State.CapturesSound.settleCapture (h : s.CapturesSound) (m : Sensor) : (s.settleCapture m).CapturesSound := by
  unfold State.settleCapture
  dsimp only
  repeat' split
  all_goals exact State.CapturesSound.congr rfl rfl (h.setCapture ((h m).congr rfl rfl rfl rfl))

theorem State.CapturesSound.endStartup (h : s.CapturesSound) : s.endStartup.CapturesSound := by
  have hall : (Sensor.all.foldl State.settleCapture s).CapturesSound :=
    ((h.settleCapture .height).settleCapture .tilt).settleCapture .pressure
  have hscaling : (Sensor.all.foldl State.settleCapture s).tables = s.tables := by rw [State.settleCaptures_rest]
  exact hall.congr (by rw [State.endStartup_rest]) (by rw [State.endStartup_rest, hscaling])

theorem State.CapturesSound.enterDormant (h : s.CapturesSound) : s.enterDormant.CapturesSound := by
  intro m
  have : s.enterDormant.capture m = (s.capture m).dormantEntry := by simp [State.capture, State.enterDormant]
  rw [this]
  exact Capture.sound_empty rfl (Nat.zero_le _) rfl (h m).2.2.2.2

theorem State.resetBlocks_capturesSound (k : ResetKind) : (s.resetBlocks k).CapturesSound := by
  intro m
  have : (s.resetBlocks k).capture m = resetCapture := by simp [State.capture, State.resetBlocks, State.reset]
  rw [this]
  exact Capture.sound_empty rfl (Nat.zero_le _) rfl (Nat.zero_le _)

theorem State.resetPart_capturesSound (k : ResetKind) : (s.resetPart k).CapturesSound :=
  State.CapturesSound.congr (s := s.resetBlocks k) rfl rfl (s.resetBlocks_capturesSound k)

/-! ### The channels through a step -/

theorem State.CapturesSound.around (ha : t.surroundings = s.surroundings) (h : s.CapturesSound) : t.CapturesSound :=
  h.congr (State.captures_of_around ha) (by rw [State.tables_of_around ha])

theorem State.CapturesSound.finish (h : s.CapturesSound) : s.finish.CapturesSound := h.around s.finish_around

theorem State.CapturesSound.finishEvent (h : s.CapturesSound) : s.finishEvent.CapturesSound := by
  unfold State.finishEvent
  obtain e | ⟨-, e⟩ := s.finish.testDormancy_cases <;> rw [e]
  · exact h.finish
  · exact h.finish.enterDormant

theorem State.eventOf_capturesSound {c : Instr} {b : Bool} (h : s.CapturesSound) (hc : s.eventOf c = some (b, u)) :
    u.CapturesSound := by
  cases c <;> cases hc
  case replySent l =>
    unfold State.replySent; split
    · exact State.resetPart_capturesSound _
    · exact h
  case replyDropped l =>
    unfold State.replyDropped; split
    · exact State.resetPart_capturesSound _
    · exact h
  case debounceSettle i =>
    obtain ⟨x, hx⟩ := s.settle_inputs i
    exact State.CapturesSound.around (State.inputChanged_around _ i) (hx ▸ h)
  case speedEdge => rw [State.takeSpeed_rest]; exact h
  case startupEnd => exact h.endStartup
  case captureRisingEdge m => exact h.risingEdge m
  case captureFallingEdge m => exact h.fallingEdge m
  case lostExpiry m => exact h.loseSensor m
  case batterySample mv =>
    obtain ⟨v, -, e⟩ | ⟨v, xs, e⟩ := s.takeSample_cases mv.toNat <;> rw [e]
    · exact State.resetPart_capturesSound _
    · exact h
  case clockComparison count =>
    obtain e | e := s.compareClock_cases count <;> rw [e]
    · exact State.resetPart_capturesSound _
    · exact h
  case gapTimerExpiry | replyStart | wakeStartBit | wakeIgn | wakeLine | ownerLapse | quietTimerExpiry | dormancyTimerExpiry
      | wakeDriveEnd | phaseTimerExpiry | trailTimerExpiry | leadReached | shortTrip | pwmPeriodStart => exact h
  all_goals exact h.around (by simp)

/-- A write to the spans empties the windows they bound; every other write leaves channels and spans alone (R75). -/
theorem State.CapturesSound.writeRecord (h : u.CapturesSound) (r : Record) : (u.writeRecord r).CapturesSound := by
  have hspan : ∀ (c : Capture) (span : Nat), (c.spanWritten span).Sound span := fun c span =>
    Capture.sound_empty rfl (Nat.zero_le _) rfl (Nat.min_le_right _ _)
  cases r
  case inputSetup i r =>
    unfold State.writeRecord State.writeInput
    dsimp only
    split
    · exact State.CapturesSound.around (State.inputChanged_around _ _) h
    · exact h
  case scaling r =>
    intro m
    change (((u.setCapture .height _).setCapture .tilt _).capture m).Sound _
    rw [State.capture_setCapture, State.capture_setCapture]
    cases m
    case height => exact hspan _ _
    case tilt => exact hspan _ _
    case pressure => exact h .pressure
  all_goals exact h

theorem State.RequestEffect.capturesSound {l : Link} {c : Instr} {e : State} (h : u.RequestEffect l c e)
    (hu : u.CapturesSound) : e.CapturesSound := by
  by_cases hc : ∃ l tag ps, c = .configWrite l tag ps
  · obtain ⟨m, tag, ps, rfl⟩ := hc
    cases h
    case configWrite r _ _ => exact hu.writeRecord r
  · exact hu.around (h.around fun l tag ps e => hc ⟨l, tag, ps, e⟩)

theorem State.Leads.capturesSound {c : Instr} (h : s.Leads c t) (hs : s.CapturesSound) : t.CapturesSound := by
  cases h
  case stays | receives => exact hs
  case answered r u res data b _ _ hu =>
    have hframe : (s.withFrame r.link).CapturesSound := hs
    have hafter : u.CapturesSound := by
      cases hu
      case followed e he => exact (he.capturesSound hframe).finish
      all_goals exact hframe
    exact hafter
  case wakes drives _ => exact State.CapturesSound.finish hs
  case restarts => exact State.resetPart_capturesSound _
  case happens u hc => exact (State.eventOf_capturesSound hs hc).finishEvent
  case powerOn =>
    unfold State.powerOn; split
    · exact State.resetBlocks_capturesSound _
    · exact State.resetPart_capturesSound _
  case pinReset =>
    unfold State.pinReset; split
    · exact hs
    · exact State.resetBlocks_capturesSound (s := s) .pin
  case release => unfold State.resetbRelease; split <;> exact hs
  case pin p d => rw [State.changePin_rest]; exact hs

/-- A tick moves the lost timers alone among the channels' records. -/
theorem State.CapturesSound.tick (h : s.CapturesSound) : s.tick.CapturesSound := by
  unfold State.tick
  split
  · exact h
  · intro m
    refine Capture.Sound.congr (r := s.capture m) ?_ ?_ ?_ ?_ (h m)
    all_goals simp [State.capture, State.advance, Capture.tick]

/-- Settles O58: the entries change only by the fault table's own operations and the channels only by theirs, each of which keeps
them sound. -/
theorem stepKeepsTheRecords : Obligations.StepKeepsTheRecords := by
  intro s t hstep
  obtain ⟨-, rfl⟩ | ⟨c, rest, -, hleads⟩ := step_leads hstep
  · have hfaults : s.tick.faults = s.faults := by unfold State.tick; split <;> rfl
    exact ⟨fun h => hfaults ▸ h, fun h => h.tick⟩
  · exact ⟨fun h => hleads.faultsSound h, fun h => hleads.capturesSound h⟩

end Sys2Proof.Machine

/-! What makes the part READY, what changes the tables and the roles, and what events and requests leave alone. -/

namespace Sys2Proof.Machine

variable {s t u : State}

/-! ### READY -/

/-- An event's effect leaves the device state, or leads to a state other than READY, but for the end of STARTUP. -/
theorem State.eventOf_deviceState {c : Instr} {b : Bool} (hc : s.eventOf c = some (b, u)) (hne : c ≠ .startupEnd) :
    s.device.state.MayStop u.device.state ∨ u.device.state ≠ .ready := by
  have hreset : ∀ (v : State) k, (v.resetPart k).device.state ≠ .ready := by simp
  cases c <;> cases hc
  case startupEnd => exact absurd rfl hne
  case replySent l =>
    unfold State.replySent; split
    · exact .inr (hreset _ _)
    · exact .inl (.inl rfl)
  case replyDropped l =>
    unfold State.replyDropped; split
    · exact .inr (hreset _ _)
    · exact .inl (.inl rfl)
  case wakeStartBit | wakeIgn | wakeLine | ownerLapse => exact .inr (by simp [State.wake, State.lapseOwner])
  case debounceSettle i =>
    obtain ⟨x, hx⟩ := s.settle_inputs i
    refine .inl ?_
    unfold State.debounced
    rw [hx]
    exact State.inputChanged_deviceState i
  case speedEdge => exact .inl (.inl (by rw [State.takeSpeed_rest]))
  case captureRisingEdge m => exact .inl (.inl (by rw [State.risingEdge_rest]))
  case captureFallingEdge m => exact .inl (.inl (by rw [State.fallingEdge_rest]))
  case batterySample mv =>
    obtain ⟨v, -, e⟩ | ⟨v, xs, e⟩ := s.takeSample_cases mv.toNat <;> rw [e]
    · exact .inr (hreset _ _)
    · exact .inl (.inl rfl)
  case clockComparison count =>
    obtain e | e := s.compareClock_cases count <;> rw [e]
    · exact .inr (hreset _ _)
    · exact .inl (.inl rfl)
  case lampProveTest n x => exact .inl (.inl (by rw [State.proveLamp_rest]))
  case openLoadTest k x => exact .inl (.inl (by rw [State.testOpenLoad_rest]))
  case gapTimerExpiry | replyStart | quietTimerExpiry | lostExpiry | dormancyTimerExpiry | wakeDriveEnd | phaseTimerExpiry
      | trailTimerExpiry | leadReached | shortTrip | pwmPeriodStart => exact .inl (.inl rfl)
  all_goals exact .inl (.inl (by simp))

/-- Only RESUME and a commit make a part READY that was not. -/
theorem State.RequestEffect.ready {l : Link} {c : Instr} {e : State} (h : u.RequestEffect l c e)
    (he : e.device.state = .ready) (hu : u.device.state ≠ .ready) :
    (∃ l tag ps, c = .resume l tag ps) ∨ ∃ l tag ps, c = .configCommit l tag ps := by
  cases h
  case resume => exact .inl ⟨_, _, _, rfl⟩
  case configCommit => exact .inr ⟨_, _, _, rfl⟩
  case configEnter => simp [State.enterConfig] at he
  case configWrite r _ _ => exact absurd ((u.writeRecord_deviceState r).ready he) hu
  case stopAll => simp at he
  case clearLamp | output => exact absurd he hu
  all_goals exact absurd (by simpa using he) hu

/-- Settles O42: hand-offs never make the part READY, and of the effects only three do. -/
theorem whatMakesReady : Obligations.WhatMakesReady := by
  intro s t c hs hexec ht
  cases exec_leads hexec
  case stays | receives => exact absurd ht hs
  case answered r u res data b _ _ hu =>
    have hready : u.device.state = .ready := ht
    cases hu
    case followed e he =>
      obtain h | h := he.ready (e.finish_deviceState.ready hready) hs
      · exact .inl h
      · exact .inr (.inl h)
    all_goals exact absurd hready hs
  case wakes drives _ =>
    have := (s.wake drives).finish_deviceState.ready ht
    simp [State.wake] at this
  case restarts => simp at ht
  case happens u hc =>
    by_cases hne : c = .startupEnd
    · exact .inr (.inr hne)
    · obtain h | h := u.finishEvent_deviceState
      · have hu := h.ready ht
        obtain h | h := State.eventOf_deviceState hc hne
        · exact absurd (h.ready hu) hs
        · exact absurd hu h
      · rw [ht] at h; cases h
  case powerOn =>
    unfold State.powerOn at ht
    split at ht
    · simp [State.resetBlocks, State.reset, resetDevice] at ht
    · simp at ht
  case pinReset =>
    unfold State.pinReset at ht
    split at ht
    · exact absurd ht hs
    · simp [State.resetBlocks, State.reset, resetDevice] at ht
  case release =>
    unfold State.resetbRelease at ht
    split at ht <;> exact absurd ht hs
  case pin p d => rw [State.changePin_rest] at ht; exact absurd ht hs

/-! ### Tables and roles -/

/-- A command leaves what the part stands in after a reset: the defaults in STARTUP, the counter at 0, and one kind among every
link's causes (R158, R159). -/
def State.StandsReset (t : State) : Prop :=
  t.tables = defaultTables ∧ t.device.state = .startup ∧ t.counter = 0
    ∧ ∃ k : ResetKind, ∀ l, (t.link l).causes.get k.ix = true

theorem State.Reset.standsReset {k : ResetKind} (h : s.Reset t k) : t.StandsReset :=
  ⟨h.tables, h.state, h.counter, k, h.cause⟩

theorem State.link_resetBlocks (k : ResetKind) (l : Link) :
    (s.resetBlocks k).link l = resetLink (s.link l).role (addCause k (s.link l).causes) := by
  simp [State.link, State.resetBlocks]

theorem State.resetBlocks_standsReset (k : ResetKind) : (s.resetBlocks k).StandsReset :=
  ⟨rfl, rfl, rfl, k, fun l => by rw [State.link_resetBlocks]; exact addCause_self k _⟩

theorem State.pinReset_standsReset (h : s.pins.resetbLow = false) : s.pinReset.StandsReset := by
  unfold State.pinReset
  rw [if_neg (by simp [h])]
  exact State.resetBlocks_standsReset (s := s) .pin

/-- An event leaves tables and roles, or resets the part with the straps' roles. -/
def State.KeepsOrResets (s u : State) : Prop :=
  (u.tables = s.tables ∧ ∀ l, (u.link l).role = (s.link l).role) ∨ ∃ k, s.Reset u k

theorem State.KeepsOrResets.of_around (h : u.surroundings = s.surroundings) : s.KeepsOrResets u :=
  .inl ⟨State.tables_of_around h, fun l => by rw [State.link, State.links_of_around h, State.link]⟩

theorem State.KeepsOrResets.of_setLink {l : Link} {r : LinkRec} (h : r.role = (s.link l).role) :
    s.KeepsOrResets (s.setLink l r) := by
  refine .inl ⟨rfl, fun m => ?_⟩
  rw [State.link_setLink]
  split
  · next e => rw [h, e]
  · rfl

theorem LinkRec.startReply_role (r : LinkRec) : r.startReply.role = r.role := by
  unfold LinkRec.startReply; split <;> rfl

theorem LinkRec.endReply_role (r : LinkRec) : r.endReply.role = r.role := by
  unfold LinkRec.endReply; exact LinkRec.startReply_role _

theorem State.eventOf_keepsOrResets {c : Instr} {b : Bool} (hc : s.eventOf c = some (b, u)) : s.KeepsOrResets u := by
  cases c <;> cases hc
  case gapTimerExpiry l => exact .of_setLink rfl
  case replyStart l => exact .of_setLink (LinkRec.startReply_role _)
  case replySent l =>
    unfold State.replySent; split
    · exact .inr ⟨_, State.resetPart_reset _⟩
    · exact .of_setLink (LinkRec.endReply_role _)
  case replyDropped l =>
    unfold State.replyDropped; split
    · exact .inr ⟨_, State.resetPart_reset _⟩
    · exact .of_setLink rfl
  case debounceSettle i =>
    obtain ⟨x, hx⟩ := s.settle_inputs i
    have ha := State.inputChanged_around { s with inputs := x } i
    unfold State.debounced
    rw [hx]
    exact .inl ⟨congrArg Surroundings.tables ha, fun l => by rw [State.link, State.links_of_around ha]; rfl⟩
  case speedEdge => rw [State.takeSpeed_rest]; exact .inl ⟨rfl, fun _ => rfl⟩
  case startupEnd => rw [State.endStartup_rest]; exact .inl ⟨rfl, fun _ => rfl⟩
  case captureRisingEdge m => rw [State.risingEdge_rest]; exact .inl ⟨rfl, fun _ => rfl⟩
  case captureFallingEdge m => rw [State.fallingEdge_rest]; exact .inl ⟨rfl, fun _ => rfl⟩
  case batterySample mv =>
    obtain ⟨v, hv, e⟩ | ⟨v, xs, e⟩ := s.takeSample_cases mv.toNat <;> rw [e]
    · refine .inr ⟨.brownOut, rfl, rfl, rfl, ?_⟩
      rw [hv]; rfl
    · exact .inl ⟨rfl, fun _ => rfl⟩
  case clockComparison count =>
    obtain e | e := s.compareClock_cases count <;> rw [e]
    · exact .inr ⟨_, State.resetPart_reset _⟩
    · exact .inl ⟨rfl, fun _ => rfl⟩
  case wakeStartBit | wakeIgn | wakeLine | ownerLapse | quietTimerExpiry | lostExpiry | dormancyTimerExpiry | wakeDriveEnd =>
    exact .inl ⟨rfl, fun _ => rfl⟩
  all_goals exact .of_around (by simp)

theorem State.KeepsOrResets.finish_event (h : s.KeepsOrResets u) : s.KeepsOrResets u.finishEvent := by
  obtain ⟨ht, hr⟩ | ⟨k, h⟩ := h
  · have ha := u.finish_around
    have htables : u.finish.tables = s.tables := (State.tables_of_around ha).trans ht
    have hroles : ∀ l, (u.finish.link l).role = (s.link l).role := fun l => by
      rw [State.link, State.links_of_around ha]; exact hr l
    unfold State.finishEvent
    obtain e | ⟨-, e⟩ := u.finish.testDormancy_cases <;> rw [e]
    · exact .inl ⟨htables, hroles⟩
    · refine .inl ⟨htables, fun l => ?_⟩
      have : (u.finish.enterDormant.link l) = (u.finish.link l).discard := by simp [State.link, State.enterDormant]
      rw [this]
      exact hroles l
  · exact .inr ⟨k, h.finishEvent⟩

theorem State.writeRecord_links (r : Record) : (u.writeRecord r).links = u.links := by
  cases r
  case inputSetup i r =>
    unfold State.writeRecord State.writeInput; dsimp only; split
    · rw [State.links_of_around (State.inputChanged_around _ _)]; rfl
    · rfl
  all_goals rfl

/-- A request keeps every link's role, and but for CONFIG_WRITE in CONFIG from its owner the tables. -/
theorem State.Answered.keeps {l : Link} {c : Instr} (h : u.Answered l c t) :
    (∀ m, (t.link m).role = (u.link m).role)
      ∧ (t.tables = u.tables ∨ ∃ tag ps, c = .configWrite l tag ps ∧ u.device.state = .config ∧ u.device.owner = some l) := by
  cases h
  case causesRead =>
    refine ⟨fun m => ?_, .inl rfl⟩
    rw [State.link_setLink]
    split
    · next e => rw [e]
    · rfl
  case followed e he =>
    have ha := e.finish_around
    have hrole : (∀ m, (e.link m).role = (u.link m).role) →
        ∀ m, (e.finish.link m).role = (u.link m).role := fun h m => by
      rw [State.link, State.links_of_around ha]; exact h m
    by_cases hc : ∃ l tag ps, c = .configWrite l tag ps
    · obtain ⟨m, tag, ps, rfl⟩ := hc
      cases he
      case configWrite r hconfig howner =>
        refine ⟨hrole fun m => ?_, .inr ⟨_, _, rfl, hconfig, howner⟩⟩
        rw [State.link, State.writeRecord_links]; rfl
    · have hb := he.around fun l tag ps e => hc ⟨l, tag, ps, e⟩
      refine ⟨hrole fun m => by rw [State.link, State.links_of_around hb, State.link], .inl ?_⟩
      exact (State.tables_of_around ha).trans (State.tables_of_around hb)
  all_goals exact ⟨fun _ => rfl, .inl rfl⟩

theorem State.link_replied_ne {l m : Link} (h : m ≠ l) (code tag : Byte) (r : Result) (data : List Byte) (b : Bool) :
    (u.replied l code tag r data b).link m = u.link m := by
  unfold State.replied
  rw [State.link_setLink, if_neg (Ne.symm h)]

theorem State.role_replied (l m : Link) (code tag : Byte) (r : Result) (data : List Byte) (b : Bool) :
    ((u.replied l code tag r data b).link m).role = (u.link m).role := by
  unfold State.replied
  rw [State.link_setLink]
  split
  · next e => rw [e]
  · rfl

/-- Settles O56: hand-offs leave the tables alone, a request writes them only by CONFIG_WRITE, and of the other effects only a
reset touches them. -/
theorem tablesStand : Obligations.TablesStand := by
  intro s t c hexec hne
  cases exec_leads hexec
  case stays | receives => exact absurd rfl hne
  case answered r u res data b _ _ hu =>
    obtain h | ⟨tag, ps, rfl, hconfig, howner⟩ := hu.keeps.2
    · exact absurd h hne
    · exact .inl ⟨_, _, _, rfl, hconfig, howner⟩
  case wakes drives _ => exact absurd (State.tables_of_around (s.wake drives).finish_around) hne
  case restarts => exact .inr (State.resetPart_reset (s := s) .restart).standsReset
  case happens u hc =>
    obtain ⟨h, -⟩ | ⟨k, h⟩ := (State.eventOf_keepsOrResets hc).finish_event
    · exact absurd h hne
    · exact .inr h.standsReset
  case powerOn =>
    unfold State.powerOn; split
    · exact .inr (State.resetBlocks_standsReset _)
    · exact .inr (State.resetPart_reset (s := s) .powerOn).standsReset
  case pinReset =>
    cases hr : s.pins.resetbLow
    · exact .inr (State.pinReset_standsReset hr)
    · exact absurd (by simp [State.pinReset, hr]) hne
  case release => exact absurd (by unfold State.resetbRelease; split <;> rfl) hne
  case pin p d => exact absurd (by rw [State.changePin_rest]) hne

/-- Settles O15: roles are written by the latching at a reset's end alone. -/
theorem rolesAreLatched : Obligations.RolesAreLatched := by
  refine ⟨fun s t c hexec => ?_, by decide, by decide, by decide, by decide⟩
  have hreset : ∀ {t : State} {k : ResetKind}, s.Reset t k → (∀ l, (t.link l).role = (s.link l).role)
      ∨ ((∀ l, (t.link l).role = rolePlan s.pins.strap1 s.pins.strap0 l) ∧ (c = .resetbRelease
        ∨ (t.device.state = .startup ∧ t.tables = defaultTables ∧ t.counter = 0
          ∧ ∃ k : ResetKind, ∀ l, (t.link l).causes.get k.ix = true))) := fun {t k} h =>
    .inr ⟨h.role, .inr ⟨h.state, h.tables, h.counter, k, h.cause⟩⟩
  cases exec_leads hexec
  case stays => exact .inl fun _ => rfl
  case receives l rx gap =>
    refine .inl fun m => ?_
    rw [State.link_setLink]
    split
    · next e => rw [e]
    · rfl
  case answered r u res data b _ _ hu =>
    refine .inl fun m => ?_
    rw [State.role_replied, hu.keeps.1, State.role_withFrame]
  case wakes drives _ =>
    refine .inl fun l => ?_
    rw [State.link, State.links_of_around (s.wake drives).finish_around]
    rfl
  case restarts => exact hreset (State.resetPart_reset _)
  case happens u hc =>
    obtain ⟨-, h⟩ | ⟨k, h⟩ := (State.eventOf_keepsOrResets hc).finish_event
    · exact .inl h
    · exact hreset h
  case powerOn =>
    unfold State.powerOn; split
    · exact .inl fun l => by rw [State.link_resetBlocks, State.link_resetBlocks]; rfl
    · exact hreset (State.resetPart_reset _)
  case pinReset =>
    refine .inl fun l => ?_
    have hrole : ((s.resetBlocks .pin).link l).role = (s.link l).role := by rw [State.link_resetBlocks]; rfl
    unfold State.pinReset; split
    · rfl
    · exact hrole
  case release =>
    unfold State.resetbRelease; split
    · exact .inr ⟨fun l => by simp [State.link, State.latchRoles], .inl rfl⟩
    · exact .inl fun _ => rfl
  case pin p d => rw [State.changePin_rest]; exact .inl fun _ => rfl

/-! ### Frames -/

/-- Settles O5: the effects of these events and what follows from them keep the surroundings. -/
theorem timerEventFrame : Obligations.TimerEventFrame := by
  intro s t c hc hexec hawake
  have hevent : ∃ b u, s.eventOf c = some (b, u) := by
    cases c
    all_goals first
      | exact ⟨_, _, rfl⟩
      | exact absurd hc (by simp [slotEvents, outputEvents])
  obtain ⟨b, u, hu⟩ := hevent
  rw [exec_event hu] at hexec
  cases hexec
  split
  · rfl
  next hcomes =>
  rw [if_neg hcomes] at hawake
  have hquiet : u.finishEvent = u.finish := by
    unfold State.finishEvent at hawake ⊢
    obtain e | ⟨-, e⟩ := u.finish.testDormancy_cases
    · exact e
    · rw [e] at hawake; exact absurd rfl hawake
  rw [hquiet, State.finish_around, State.eventOf_around hc hu]

end Sys2Proof.Machine

namespace Sys2Proof

open Machine

/-- Settles O9: a request's effect keeps the surroundings, and its reply is written on its own link. -/
theorem requestFrame : Obligations.RequestFrame := by
  intro s t c r hc hwrite htaken hexec
  obtain ⟨rule, hrule, hserve⟩ := exec_request hc
  obtain ⟨u, res, data, b, hu, ht⟩ := State.serve_answered (code := r.code) (tag := r.tag) (who := r.who)
    (inStartup := r.inStartup) htaken (rule_answered hc hrule (s.withFrame r.link))
  rw [hserve, ht] at hexec
  cases hexec
  have hkept : { u.surroundings with links := s.links } = { s.surroundings with links := s.links }
      ∧ ∀ m, m ≠ r.link → u.link m = (s.withFrame r.link).link m := by
    cases hu
    case followed e he =>
      have ha := e.finish_around.trans (he.around hwrite)
      exact ⟨by rw [ha]; rfl, fun m _ => by rw [State.link, State.links_of_around ha, State.link]⟩
    case causesRead =>
      exact ⟨rfl, fun m hm => by rw [State.link_setLink, if_neg (Ne.symm hm)]⟩
    all_goals exact ⟨rfl, fun _ _ => rfl⟩
  obtain ⟨hsame, hlinks⟩ := hkept
  refine ⟨congrArg Surroundings.pins hsame, congrArg Surroundings.inputs hsame, congrArg Surroundings.captures hsame,
    congrArg Surroundings.supply hsame, congrArg Surroundings.counter hsame, congrArg Surroundings.pending hsame,
    congrArg Surroundings.tables hsame, fun m hm => ?_⟩
  rw [State.link_replied_ne hm, hlinks m hm, State.link_withFrame_ne s hm]

end Sys2Proof

/-! Slots and arbiter through every step (R1, R2, R21 to R33, R143). -/

namespace Sys2Proof.Machine

variable {s t u : State} {a : Actuator}

/-! ### Sets of links -/

theorem LinkTimers.isEmpty_none : LinkTimers.none.isEmpty = true := by decide

theorem LinkTimers.isEmpty_set_some (t : LinkTimers) (l : Link) (v : Nat) :
    LinkTimers.isEmpty (t.set l (some v)) = false := by
  rw [Bool.eq_false_iff]
  intro h
  simpa using (LinkTimers.isEmpty_iff _).1 h l

/-- A link that leaves an empty set leaves it as it is. -/
theorem LinkTimers.set_none_of_isEmpty {t : LinkTimers} (h : t.isEmpty = true) (l : Link) :
    t.set l Option.none = t := by
  rw [← (LinkTimers.isEmpty_iff t).1 h l, Table.set_get_self]

theorem LinkTimers.isEmpty_map (t : LinkTimers) (f : Option Nat → Option Nat) (hf : ∀ v, (f v).isNone = v.isNone) :
    LinkTimers.isEmpty (t.map f) = t.isEmpty := by
  simp [LinkTimers.isEmpty, Table.map, List.all_map, Function.comp_def, hf]

/-- A link of an empty set has no timer. -/
theorem LinkTimers.get_of_isEmpty {t : LinkTimers} (h : t.isEmpty = true) (l : Link) : t.get l = Option.none :=
  (LinkTimers.isEmpty_iff t).1 h l

/-! ### One slot -/

theorem Slot.Sound.of_idle {r : Slot} (h : r.Sound) (hs : r.state = .idle) :
    r.stroke = none ∧ r.holders.isEmpty = true ∧ r.owner = none ∧ r.watch.isEmpty = true := by
  unfold Slot.Sound at h; rw [hs] at h; exact h

/-- A slot that is neither IDLE nor BLOCKED has a stroke. -/
theorem Slot.Sound.stroke_ne_none {r : Slot} (h : r.Sound) (hi : r.state ≠ .idle) (hb : r.state ≠ .blocked) :
    r.stroke ≠ none := by
  unfold Slot.Sound at h
  split at h
  · next hs => exact absurd hs hi
  · exact h.1
  · exact h.1
  · exact h.1
  · exact h.1
  · exact h.1
  · next hs => exact absurd hs hb

theorem Slot.sound_of_keptAlive {r : Slot} (h : r.state.keptAlive = true) : r.Sound ↔ r.stroke ≠ none
    ∧ ((r.holders.isEmpty = true ∧ r.owner ≠ none) ∨ (r.holders.isEmpty = false ∧ r.owner = none)) := by
  unfold Slot.Sound
  cases hs : r.state <;> rw [hs] at h <;> first | exact Iff.rfl | cases h

theorem Slot.sound_of_holders {r : Slot} (hk : r.state.keptAlive = true) (hstroke : r.stroke ≠ none)
    (hh : r.holders.isEmpty = false) (ho : r.owner = none) : r.Sound :=
  (Slot.sound_of_keptAlive hk).2 ⟨hstroke, .inr ⟨hh, ho⟩⟩

/-- A slot with a holder keeps a motion alive, and has no owner. -/
theorem Slot.Sound.of_holders {r : Slot} (h : r.Sound) (hh : r.holders.isEmpty = false) :
    r.state.keptAlive = true ∧ r.stroke ≠ none ∧ r.owner = none := by
  have hk : r.state.keptAlive = true := by
    unfold Slot.Sound at h
    cases hs : r.state <;> rw [hs] at h <;> first | rfl | (simp [hh] at h)
  obtain ⟨hstroke, h | h⟩ := (Slot.sound_of_keptAlive hk).1 h
  · rw [hh] at h; cases h.1
  · exact ⟨hk, hstroke, h.2⟩

theorem Slot.Sound.congr {r r' : Slot} (h : r.Sound) (hstate : r'.state = r.state := by rfl)
    (hstroke : r'.stroke = r.stroke := by rfl) (hholders : r'.holders.isEmpty = r.holders.isEmpty := by rfl)
    (howner : r'.owner = r.owner := by rfl) (hwatch : r'.watch.isEmpty = r.watch.isEmpty := by rfl) : r'.Sound := by
  unfold Slot.Sound at *
  rw [hstate, hstroke, hholders, howner, hwatch]
  exact h

/-- Sound, or a motion that its last holder has just left: what an end may find. -/
def Slot.Endable (r : Slot) : Prop := r.Sound ∨ (r.state.keptAlive = true ∧ r.stroke ≠ none)

/-! ### The agreement and the soundness together -/

/-- Slots and arbiter agree, and every slot is sound. -/
def State.SupplySound (s : State) : Prop := s.SupplyAgrees ∧ s.SlotsSound

/-- As `SupplySound`, but for the slot `a`, whose end may have begun. -/
def State.SupplySoundBut (s : State) (a : Actuator) : Prop :=
  s.SupplyAgrees ∧ (∀ b, b ≠ a → (s.slot b).Sound) ∧ (s.slot a).Endable

theorem State.SupplySound.but (h : s.SupplySound) (a : Actuator) : s.SupplySoundBut a :=
  ⟨h.1, fun b _ => h.2 b, .inl (h.2 a)⟩

/-- The agreement and the soundness read the slots and the arbiter's lists alone. -/
theorem State.SupplySound.congr (h : s.SupplySound) (hs : t.slots = s.slots := by rfl)
    (hc : t.arbiter.callList = s.arbiter.callList := by rfl) (hg : t.arbiter.grants = s.arbiter.grants := by rfl)
    (hp : t.arbiter.pumpOwner = s.arbiter.pumpOwner := by rfl) : t.SupplySound := by
  have hslot : ∀ b, t.slot b = s.slot b := fun b => by rw [State.slot, hs, State.slot]
  exact ⟨State.supplyAgrees_congr hc hg hp (fun b => by rw [hslot]) (fun b => by rw [hslot]) (fun b _ => by rw [hslot]) h.1,
    fun b => by rw [hslot]; exact h.2 b⟩

/-- A slot's record that holds and asks for the supply as before keeps the agreement. -/
theorem State.SupplyAgrees.setSlot {r : Slot} (h : s.SupplyAgrees)
    (hw : r.state = .waiting ↔ (s.slot a).state = .waiting := by rfl)
    (hg : r.state.granted = (s.slot a).state.granted := by rfl) (hk : r.stroke = (s.slot a).stroke := by rfl) : (s.setSlot a r).SupplyAgrees := by
  refine State.supplyAgrees_congr (s := s) (t := s.setSlot a r) rfl rfl rfl (fun b => ?_) (fun b => ?_) (fun b _ => ?_) h
  all_goals
    rw [State.slot_setSlot]
    split
    · next e => subst e; assumption
    · rfl

theorem State.SupplySound.setSlot {r : Slot} (h : s.SupplySound) (hr : r.Sound)
    (hw : r.state = .waiting ↔ (s.slot a).state = .waiting := by rfl)
    (hg : r.state.granted = (s.slot a).state.granted := by rfl) (hk : r.stroke = (s.slot a).stroke := by rfl) : (s.setSlot a r).SupplySound := by
  refine ⟨h.1.setSlot hw hg hk, fun b => ?_⟩
  rw [State.slot_setSlot]
  split
  · exact hr
  · exact h.2 b

/-! ### Completing an end -/

@[simp] theorem State.stopProfile_arbiter (a : Actuator) : (s.stopProfile a).arbiter = s.arbiter := by
  unfold State.stopProfile; split <;> rfl

@[simp] theorem State.leaveCallList_grants (a : Actuator) : (s.leaveCallList a).arbiter.grants = s.arbiter.grants := by
  unfold State.leaveCallList; split <;> rfl

@[simp] theorem State.leaveCallList_pumpOwner (a : Actuator) :
    (s.leaveCallList a).arbiter.pumpOwner = s.arbiter.pumpOwner := by
  unfold State.leaveCallList; split <;> rfl

theorem State.leaveCallList_callList (a : Actuator) :
    (s.leaveCallList a).arbiter.callList = s.arbiter.callList.erase a := by
  unfold State.leaveCallList
  split
  · rfl
  · next h => exact (List.erase_of_not_mem h).symm

@[simp] theorem State.releaseGrant_callList (a : Actuator) :
    (s.releaseGrant a).arbiter.callList = s.arbiter.callList := by
  unfold State.releaseGrant; split <;> rfl

theorem State.releaseGrant_grant (a : Actuator) (c : Circuit) :
    (s.releaseGrant a).grant c = if s.grant c = some a ∧ a.circuit = c then none else s.grant c := by
  unfold State.releaseGrant
  by_cases h : s.grant a.circuit = some a
  · rw [if_pos h, State.grant_push, State.grant_setGrant]
    by_cases e : a.circuit = c
    · subst e; rw [if_pos rfl, if_pos ⟨h, rfl⟩]
    · rw [if_neg e, if_neg fun hg => e (And.right hg)]; rfl
  · rw [if_neg h, if_neg]
    rintro ⟨h', rfl⟩
    exact h h'

theorem State.releaseGrant_pumpOwner (a : Actuator) : (s.releaseGrant a).arbiter.pumpOwner
    = if s.grant a.circuit = some a ∧ s.arbiter.pumpOwner = some a then none else s.arbiter.pumpOwner := by
  unfold State.releaseGrant
  by_cases h : s.grant a.circuit = some a
  · simp [h]
  · rw [if_neg h, if_neg fun h' => h h'.1]

theorem State.completeRecord_callList (a : Actuator) (o : Ending) :
    (s.completeRecord a o).arbiter.callList = s.arbiter.callList.erase a := by
  simp [State.completeRecord, State.leaveCallList_callList]

theorem State.completeRecord_grant (a : Actuator) (o : Ending) (c : Circuit) :
    (s.completeRecord a o).grant c = if s.grant c = some a ∧ a.circuit = c then none else s.grant c := by
  have hbefore : ∀ c, ((((s.setSlot a ((s.slot a).ended o)).stopProfile a).setPrime a .stopped).leaveCallList a).grant c
      = s.grant c := fun c => by simp [State.grant]
  simp [State.completeRecord, State.releaseGrant_grant, hbefore]

theorem State.completeRecord_pumpOwner (a : Actuator) (o : Ending) :
    (s.completeRecord a o).arbiter.pumpOwner
      = if s.grant a.circuit = some a ∧ s.arbiter.pumpOwner = some a then none else s.arbiter.pumpOwner := by
  have hbefore : ∀ c, ((((s.setSlot a ((s.slot a).ended o)).stopProfile a).setPrime a .stopped).leaveCallList a).grant c
      = s.grant c := fun c => by simp [State.grant]
  simp [State.completeRecord, State.releaseGrant_pumpOwner, hbefore]

/-- The slot whose end has completed neither asks for the supply nor holds it (R21, R32). -/
theorem State.completeRecord_supplyAgrees (h : s.SupplyAgrees) (o : Ending) : (s.completeRecord a o).SupplyAgrees := by
  obtain ⟨hnodup, hcall, hgrant, hcircuit, hpump⟩ := h
  have hslot := State.slot_completeRecord (s := s) a
  have hended : ((s.slot a).ended o).state ≠ .waiting ∧ ((s.slot a).ended o).state.granted = false := by
    obtain ⟨-, h | h⟩ := (s.slot a).ended_sound o <;> rw [h] <;> decide
  refine ⟨?_, fun b => ?_, fun b => ?_, fun c b hb => ?_, fun b => ?_⟩
  · rw [State.completeRecord_callList]; exact hnodup.erase a
  · rw [State.completeRecord_callList, hnodup.mem_erase_iff, hslot, hcall b]
    by_cases e : a = b
    · subst e; simp [hended.1]
    · simp [e, Ne.symm e]
  · rw [State.completeRecord_grant, hslot]
    by_cases e : a = b
    · subst e; simp [hended.2]
    · rw [if_neg e, ← hgrant b]
      split
      · next hg => rw [hg.1]; simp [e]
      · exact Iff.rfl
  · rw [State.completeRecord_grant] at hb
    split at hb
    · cases hb
    · exact hcircuit c b hb
  · rw [State.completeRecord_pumpOwner, hslot]
    by_cases e : a = b
    · subst e
      simp only [if_pos, hended.2, Bool.false_eq_true, false_and, iff_false]
      split
      · simp
      · next hno => exact fun hp => hno ⟨(hgrant a).2 ((hpump a).1 hp).1, hp⟩
    · rw [if_neg e, ← hpump b]
      split
      · next hg => rw [hg.2]; simp [e]
      · exact Iff.rfl

theorem State.complete_supplySound (h : s.SupplyAgrees) (hothers : ∀ b, b ≠ a → (s.slot b).Sound) (o : Ending) :
    (s.complete a o).SupplySound := by
  have hrecord : (s.completeRecord a o).SupplySound := by
    refine ⟨State.completeRecord_supplyAgrees h o, fun b => ?_⟩
    rw [State.slot_completeRecord]
    split
    · exact ((s.slot a).ended_sound o).1
    · next e => exact hothers b (Ne.symm e)
  rw [State.complete_rest]
  exact hrecord

/-! ### How a motion ends -/

theorem Slot.settle_sound {r : Slot} (h : r.stroke ≠ none) (o : Ending) : (r.settle o).Sound :=
  ⟨h, LinkTimers.isEmpty_none, rfl⟩

theorem State.stopOverload_supplySound (h : s.SupplySound) (a : Actuator) : (s.stopOverload a).SupplySound := by
  unfold State.stopOverload; split <;> exact h

theorem State.stopProfile_supplySound (h : s.SupplySound) (a : Actuator) : (s.stopProfile a).SupplySound := by
  unfold State.stopProfile; split <;> exact h

/-- An end of a motion keeps slots and arbiter in agreement and leaves every slot sound. -/
theorem State.SupplySoundBut.endMotion (h : s.SupplySoundBut a) (o : Ending) : (s.endMotion a o).SupplySound := by
  obtain ⟨hagrees, hothers, hend⟩ := h
  have hcomplete : (s.complete a o).SupplySound := State.complete_supplySound hagrees hothers o
  have hsame : (s.slot a).state.keptAlive = false → s.SupplySound := by
    intro hk
    refine ⟨hagrees, fun b => ?_⟩
    by_cases hb : b = a
    · subst hb
      exact hend.resolve_right fun h => by rw [hk] at h; cases h.1
    · exact hothers b hb
  unfold State.endMotion
  dsimp only
  cases hs : (s.slot a).state
  case idle | blocked => exact hsame (by rw [hs]; rfl)
  case waiting | priming | holding => exact hcomplete
  case running =>
    dsimp only
    split
    · refine State.stopOverload_supplySound ⟨hagrees.setSlot ?_ ?_, fun b => ?_⟩ a
      · simp [Slot.settle, hs]
      · simp [Slot.settle, hs, SlotState.granted]
      · rw [State.slot_setSlot]
        split
        · refine Slot.settle_sound ?_ o
          exact hend.elim (fun h => h.stroke_ne_none (by rw [hs]; decide) (by rw [hs]; decide)) fun h => h.2
        · next e => exact hothers b (Ne.symm e)
    · exact hcomplete
  case settling =>
    dsimp only
    have hsound := hsame (by rw [hs]; rfl)
    have hraised : (s.setSlot a ((s.slot a).raiseClass o)).SupplySound := by
      unfold Slot.raiseClass
      split
      · exact hsound.setSlot (hsound.2 a).congr
      · exact hsound.setSlot (hsound.2 a)
    split
    · exact hraised
    · exact State.complete_supplySound hraised.1 (fun b _ => hraised.2 b) o

theorem State.SupplySound.endMotion (h : s.SupplySound) (a : Actuator) (o : Ending) : (s.endMotion a o).SupplySound :=
  (h.but a).endMotion o

theorem State.SupplySound.endGranted (h : s.SupplySound) (a : Actuator) (o : Ending) : (s.endGranted a o).SupplySound := by
  unfold State.endGranted; split
  · exact h.endMotion a o
  · exact h

/-! ### From grant to running -/

theorem SlotState.keptAlive_of_granted {st : SlotState} (hg : st.granted = true) (hs : st ≠ .settling) :
    st.keptAlive = true := by
  cases st
  case settling => exact absurd rfl hs
  all_goals first | rfl | cases hg

/-- A granted motion that goes from one state of a granted motion to another keeps the supply as it is. -/
theorem State.SupplySound.setGranted {r : Slot} (h : s.SupplySound) (hold : (s.slot a).state.granted = true)
    (holdSettling : (s.slot a).state ≠ .settling) (hnew : r.state.granted = true) (hnewSettling : r.state ≠ .settling)
    (hstroke : r.stroke = (s.slot a).stroke := by rfl) (hholders : r.holders = (s.slot a).holders := by rfl)
    (howner : r.owner = (s.slot a).owner := by rfl) : (s.setSlot a r).SupplySound := by
  have hwait : ∀ st : SlotState, st.granted = true → st ≠ .waiting := by intro st; cases st <;> decide
  refine h.setSlot ?_ ?_ (by rw [hnew, hold]) hstroke
  · have hk := SlotState.keptAlive_of_granted hold holdSettling
    rw [Slot.sound_of_keptAlive (SlotState.keptAlive_of_granted hnew hnewSettling), hstroke, hholders, howner]
    exact (Slot.sound_of_keptAlive hk).1 (h.2 a)
  · simp [hwait _ hnew, hwait _ hold]

theorem State.SupplySound.regainGate (h : s.SupplySound) (a : Actuator) : (s.regainGate a).SupplySound := by
  unfold State.regainGate
  dsimp only
  split
  · next hcond =>
    simp only [Bool.and_eq_true, decide_eq_true_eq] at hcond
    have hgranted : (s.slot a).state.granted = true := by rw [hcond.1]; rfl
    exact State.SupplySound.congr
      (h.setGranted (r := { s.slot a with state := .priming, holdTimer := none }) hgranted (by rw [hcond.1]; decide) rfl
        nofun)
  · exact h

theorem State.SupplySound.enterHolding (h : s.SupplySound)
    (hs : (s.slot a).state = .priming ∨ (s.slot a).state = .running) : (s.enterHolding a).SupplySound := by
  have hgranted : (s.slot a).state.granted = true ∧ (s.slot a).state ≠ .settling := by
    obtain hs | hs := hs <;> rw [hs] <;> decide
  exact State.SupplySound.congr (State.stopProfile_supplySound
    (h.setGranted (r := { s.slot a with state := .holding, holdTimer := some 0, u := 0 }) hgranted.1 hgranted.2 rfl
      nofun) a)

theorem State.SupplySound.runEndTest (h : s.SupplySound) (a : Actuator) : (s.runEndTest a).SupplySound := by
  unfold State.runEndTest
  dsimp only
  repeat' split
  all_goals first
    | exact h
    | exact h.endMotion a _

theorem State.SupplySound.testOverload (h : s.SupplySound) : s.testOverload.SupplySound := by
  unfold State.testOverload
  dsimp only
  repeat' split
  all_goals exact h

/-- A slot's duty is no part of what the arbiter reads. -/
theorem State.SupplySound.setU (h : s.SupplySound) (a : Actuator) (v : Nat) :
    (s.setSlot a { s.slot a with u := v }).SupplySound :=
  h.setSlot ((h.2 a).congr)

theorem State.SupplySound.enterRunning (h : s.SupplySound) (hs : (s.slot a).state = .priming) :
    (s.enterRunning a).SupplySound := by
  have hgranted : (s.slot a).state.granted = true ∧ (s.slot a).state ≠ .settling := by rw [hs]; decide
  have h1 : ((s.setSlot a { s.slot a with state := .running }).setPrime a .stopped).SupplySound :=
    State.SupplySound.congr
      (h.setGranted (r := { s.slot a with state := .running }) hgranted.1 hgranted.2 rfl nofun)
  unfold State.enterRunning
  dsimp only
  split
  · exact State.SupplySound.setU h1 .lift _
  · split
    · exact (h1.runEndTest a).testOverload
    · exact h1.runEndTest a

theorem State.SupplySound.primeTestOf (h : s.SupplySound) (a : Actuator) : (s.primeTestOf a).SupplySound := by
  unfold State.primeTestOf
  dsimp only
  split
  · next hcond =>
    simp only [Bool.and_eq_true, decide_eq_true_eq] at hcond
    exact h.enterRunning hcond.1.1
  · exact h

/-- An operation made at each actuator keeps what it keeps at one. -/
theorem foldl_preserves {α β : Type} {P : α → Prop} {op : α → β → α} (h : ∀ s x, P s → P (op s x)) (xs : List β) (s : α)
    (hs : P s) : P (xs.foldl op s) := by
  induction xs generalizing s with
  | nil => exact hs
  | cons x xs ih => exact ih _ (h s x hs)

theorem State.SupplySound.primeTests (h : s.SupplySound) : s.primeTests.SupplySound :=
  foldl_preserves (P := State.SupplySound) (fun _ a h => State.SupplySound.primeTestOf h a) _ _ h

theorem State.SupplySound.loseCondition (h : s.SupplySound) (c : Cond) (a : Actuator) :
    (State.loseCondition c s a).SupplySound := by
  unfold State.loseCondition
  dsimp only
  split
  case isFalse => exact h
  have hgate : (if decide ((s.slot a).state = .priming) || decide ((s.slot a).state = .running) then s.enterHolding a
      else s).SupplySound := by
    split
    · next hs => exact h.enterHolding (by simpa using hs)
    · exact h
  split
  case h_1 | h_2 => exact hgate
  all_goals first
    | exact h
    | exact h.endMotion a _

theorem State.SupplySound.slotsTakeCondition (h : s.SupplySound) (c : Cond) (v : Bool) :
    (s.slotsTakeCondition c v).SupplySound := by
  unfold State.slotsTakeCondition
  split
  · split
    · exact foldl_preserves (P := State.SupplySound) (fun _ a h => State.SupplySound.regainGate h a) _ _ h
    · exact h
  · exact foldl_preserves (P := State.SupplySound) (fun _ a h => State.SupplySound.loseCondition h c a) _ _ h

/-! ### Taking a motion -/

/-- A new motion puts its slot in WAITING and at the end of the call list (R26). -/
theorem State.SupplySound.enterWaiting (h : s.SupplySound) (hidle : (s.slot a).state = .idle) (k : Stroke)
    (target : Option Nat) (gate : Option Gate) (w : Starter) : (s.enterWaiting a k target gate w).SupplySound := by
  obtain ⟨⟨hnodup, hcall, hgrant, hcircuit, hpump⟩, hsound⟩ := h
  have habsent : a ∉ s.arbiter.callList := by rw [hcall, hidle]; decide
  have hslot : ∀ b, b ≠ a → (s.enterWaiting a k target gate w).slot b = s.slot b := fun b hb =>
    (State.slot_setSlot_ite a b _).trans (if_neg (Ne.symm hb))
  have hself : ((s.enterWaiting a k target gate w).slot a).state = .waiting
      ∧ ((s.enterWaiting a k target gate w).slot a).Sound := by
    have hown : (s.enterWaiting a k target gate w).slot a = _ := State.slot_setSlot_self _ a _
    rw [hown]
    refine ⟨rfl, ?_⟩
    cases w
    case holder l => exact ⟨nofun, .inr ⟨LinkTimers.isEmpty_set_some _ _ _, rfl⟩⟩
    case owner o => exact ⟨nofun, .inl ⟨LinkTimers.isEmpty_none, nofun⟩⟩
  refine ⟨⟨?_, fun b => ?_, fun b => ?_, hcircuit, fun b => ?_⟩, fun b => ?_⟩
  · exact List.nodup_append.2 ⟨hnodup, List.nodup_singleton a, fun x hx y hy e => habsent (by
      rw [← List.mem_singleton.1 hy, ← e]; exact hx)⟩
  · change b ∈ s.arbiter.callList ++ [a] ↔ _
    rw [List.mem_append, List.mem_singleton, hcall b]
    by_cases hb : b = a
    · subst hb; simp [hself.1]
    · simp [hslot b hb, hb]
  · change s.grant b.circuit = some b ↔ _
    rw [hgrant b]
    by_cases hb : b = a
    · subst hb; rw [hself.1, hidle]; decide
    · rw [hslot b hb]
  · change s.arbiter.pumpOwner = some b ↔ _
    rw [hpump b]
    by_cases hb : b = a
    · subst hb; rw [hself.1, hidle]; simp [SlotState.granted]
    · rw [hslot b hb]
  · by_cases hb : b = a
    · subst hb; exact hself.2
    · rw [hslot b hb]; exact hsound b

theorem State.SupplySound.takeMotion (h : s.SupplySound) (hidle : (s.slot a).state = .idle) (k : Stroke)
    (given : Option Nat) (gate : Option Gate) (w : Starter) : (s.takeMotion a k given gate w).2.SupplySound := by
  obtain ⟨r, -, -, e⟩ | e := State.takeMotion_cases (u := s) a k given gate w <;> rw [e]
  · exact h
  · exact h.enterWaiting hidle k _ gate w

theorem State.SupplySound.postMotion (h : s.SupplySound) (c : Ctx) (m : MotionStep) :
    (s.postMotion c m).2.SupplySound := by
  unfold State.postMotion
  dsimp only
  split
  · exact h
  split
  · exact h
  split
  · exact h
  · next hidle => exact h.takeMotion (not_not.1 hidle) _ _ _ _

/-! ### Departures -/

/-- A holder's departure keeps the supply: the last one's is the end of the motion (R8). -/
theorem State.SupplySound.holderLeaves (h : s.SupplySound) (a : Actuator) (l : Link) (o : Ending) :
    (s.holderLeaves a l o).SupplySound := by
  have hagrees : (s.setSlot a { s.slot a with holders := (s.slot a).holders.set l none }).SupplyAgrees :=
    h.1.setSlot
  have hothers : ∀ b, b ≠ a →
      ((s.setSlot a { s.slot a with holders := (s.slot a).holders.set l none }).slot b).Sound := fun b hb => by
    rw [State.slot_setSlot, if_neg (Ne.symm hb)]; exact h.2 b
  unfold State.holderLeaves
  dsimp only
  cases hempty : (s.slot a).holders.isEmpty
  case true =>
    have hself : ({ s.slot a with holders := (s.slot a).holders.set l none } : Slot).Sound :=
      (h.2 a).congr (hholders := by rw [LinkTimers.set_none_of_isEmpty hempty])
    have hsame := h.setSlot (a := a) hself
    split
    · exact hsame.endMotion a o
    · exact hsame
  case false =>
    obtain ⟨hk, hstroke, howner⟩ := (h.2 a).of_holders hempty
    split
    · refine State.SupplySoundBut.endMotion ⟨hagrees, hothers, .inr ?_⟩ o
      rw [State.slot_setSlot_self]; exact ⟨hk, hstroke⟩
    · next hleft =>
      refine h.setSlot (Slot.sound_of_holders hk hstroke ?_ howner)
      exact Bool.eq_false_iff.2 hleft

/-- A watched link's departure frees a BLOCKED slot that has no other (R22). -/
theorem State.SupplySound.watcherLeaves (h : s.SupplySound) (a : Actuator) (l : Link) :
    (s.watcherLeaves a l).SupplySound := by
  have hsound := h.2 a
  unfold State.watcherLeaves
  dsimp only
  cases hs : (s.slot a).state
  case blocked =>
    have hrecord : (s.slot a).stroke = none ∧ (s.slot a).holders.isEmpty = true ∧ (s.slot a).owner = none := by
      unfold Slot.Sound at hsound; rw [hs] at hsound; exact ⟨hsound.1, hsound.2.1, hsound.2.2.1⟩
    obtain ⟨hstroke, hholders, howner⟩ := hrecord
    split
    · next hcond =>
      refine State.SupplySound.congr (h.setSlot (a := a)
        (r := { s.slot a with watch := (s.slot a).watch.set l none, state := .idle }) ?_ ?_ ?_)
      · exact ⟨hstroke, hholders, howner, by simpa using hcond⟩
      · simp [hs]
      · simp [hs, SlotState.granted]
    · next hcond =>
      refine h.setSlot ?_ (by simp [hs]) (by simp [hs])
      have hleft : LinkTimers.isEmpty ((s.slot a).watch.set l none) = false := by simpa using hcond
      exact ⟨hstroke, hholders, howner, hleft⟩
  case idle =>
    obtain ⟨-, -, -, hwatch⟩ := hsound.of_idle hs
    simp only [reduceCtorEq, decide_false, Bool.false_and, Bool.false_eq_true, if_false]
    refine h.setSlot (hsound.congr (hstate := hs.symm) (hwatch := ?_)) (by simp [hs]) (by simp [hs])
    rw [LinkTimers.set_none_of_isEmpty hwatch]
  all_goals
    simp only [reduceCtorEq, decide_false, Bool.false_and, Bool.false_eq_true, if_false]
    refine h.setSlot ?_ (by simp [hs]) (by simp [hs])
    unfold Slot.Sound at hsound ⊢
    rw [hs] at hsound
    exact hsound

theorem State.SupplySound.watchLink (h : s.SupplySound) (hs : (s.slot a).state = .settling ∨ (s.slot a).state = .blocked)
    (l : Link) : (s.watchLink a l).SupplySound := by
  have hsound := h.2 a
  refine h.setSlot ?_
  unfold Slot.Sound at hsound ⊢
  obtain hs | hs := hs <;> rw [hs] at hsound <;> simp only [hs]
  · exact hsound
  · exact ⟨hsound.1, hsound.2.1, hsound.2.2.1, LinkTimers.isEmpty_set_some _ _ _⟩

theorem State.SupplySound.joinHolders (h : s.SupplySound) (hs : (s.slot a).state.keptAlive = true)
    (ho : (s.slot a).owner = none) (l : Link) : (s.joinHolders a l).SupplySound := by
  have hstroke := ((Slot.sound_of_keptAlive hs).1 (h.2 a)).1
  exact h.setSlot (Slot.sound_of_holders hs hstroke (LinkTimers.isEmpty_set_some _ _ _) ho)

theorem State.SupplySound.takeConflict (h : s.SupplySound) (a : Actuator) (l : Link) :
    (s.takeConflict a l).SupplySound := by
  refine State.complete_supplySound (h.1.setSlot) (fun b hb => ?_) _
  rw [State.slot_setSlot, if_neg (Ne.symm hb)]
  exact h.2 b

theorem State.SupplySound.contextEnds (h : s.SupplySound) (c : Ctx) (a : Actuator) (o : Ending) :
    (s.contextEnds c a o).SupplySound := by
  unfold State.contextEnds; split
  · exact h.endMotion a o
  · exact h

theorem State.SupplySound.endMotionOf (h : s.SupplySound) (c : Ctx) (x : Option Actuator) (o : Ending) :
    (s.endMotionOf c x o).SupplySound := by
  unfold State.endMotionOf; split
  · exact h.contextEnds c _ o
  · exact h

theorem State.SupplySound.complete (h : s.SupplySound) (a : Actuator) (o : Ending) : (s.complete a o).SupplySound :=
  State.complete_supplySound h.1 (fun b _ => h.2 b) o

theorem State.SupplySound.stopSlot (h : s.SupplySound) (a : Actuator) : (s.stopSlot a).SupplySound := by
  have hsound := h.2 a
  unfold State.stopSlot
  dsimp only
  cases hs : (s.slot a).state
  case idle => exact h
  case blocked =>
    unfold Slot.Sound at hsound
    rw [hs] at hsound
    refine State.SupplySound.congr (h.setSlot (a := a)
      (r := { s.slot a with state := .idle, watch := LinkTimers.none }) ?_ (by simp [hs]) (by simp [hs, SlotState.granted]))
    exact ⟨hsound.1, hsound.2.1, hsound.2.2.1, LinkTimers.isEmpty_none⟩
  all_goals exact h.complete a .stopped

theorem State.SupplySound.updateRunning (h : s.SupplySound) : s.updateRunning.SupplySound := by
  unfold State.updateRunning
  dsimp only
  split
  · exact h.endMotion .lift _
  · exact State.SupplySound.setU (s := { s with profile := _ }) h .lift _

theorem State.SupplySound.updateSettling (h : s.SupplySound) : s.updateSettling.SupplySound := by
  unfold State.updateSettling
  dsimp only
  split
  · exact h.complete .lift _
  · exact State.SupplySound.setU (s := { s with profile := _ }) h .lift _

end Sys2Proof.Machine

/-! The supply arbiter's rounds (R27 to R33): the candidate of a circuit, the grants of a round, and what a grant leaves. -/

namespace Sys2Proof.Machine

variable {s t : State} {a b : Actuator} {c : Circuit}

/-! ### The candidate of a circuit (R29) -/

theorem bestOf_eq_none_iff {p : Actuator → Nat} {xs : List Actuator} : bestOf p xs = none ↔ xs = [] := by
  cases xs with
  | nil => simp [bestOf]
  | cons x xs => unfold bestOf; split <;> simp; split <;> simp

/-- The best of the members that pass a test has the highest priority among them, and stands first between equals. -/
theorem bestOf_filter_first {p : Actuator → Nat} {q : Actuator → Bool} {xs : List Actuator}
    (h : bestOf p (xs.filter q) = some a) (hb : b ∈ xs) (hq : q b = true) :
    p b ≤ p a ∧ (p b = p a → xs.idxOf a ≤ xs.idxOf b) := by
  induction xs generalizing a with
  | nil => cases hb
  | cons x xs ih =>
    have hqa : q a = true := (List.mem_filter.1 (bestOf_mem h)).2
    have tail : ∀ y, y ≠ x → (x :: xs).idxOf y = xs.idxOf y + 1 := fun y hy => List.idxOf_cons_ne xs (Ne.symm hy)
    by_cases hx : q x = true
    · rw [List.filter_cons_of_pos hx] at h
      unfold bestOf at h
      split at h
      case h_1 b' hb' =>
        split at h
        case isTrue hlt =>
          obtain rfl : b' = a := Option.some.inj h
          have hax : b' ≠ x := by rintro rfl; omega
          by_cases hbx : b = x
          · subst hbx; exact ⟨hlt.le, fun e => by omega⟩
          · obtain ⟨hle, hidx⟩ := ih hb' ((List.mem_cons.1 hb).resolve_left hbx)
            rw [tail _ hax, tail _ hbx]
            exact ⟨hle, fun e => by have := hidx e; omega⟩
        case isFalse hge =>
          obtain rfl : x = a := Option.some.inj h
          refine ⟨?_, fun _ => by simp⟩
          by_cases hbx : b = x
          · subst hbx; exact le_refl _
          · have := (ih hb' ((List.mem_cons.1 hb).resolve_left hbx)).1
            omega
      case h_2 hnone =>
        obtain rfl : x = a := Option.some.inj h
        have hempty := bestOf_eq_none_iff.1 hnone
        have hbx : b = x := (List.mem_cons.1 hb).resolve_right fun hmem => by
          have : b ∈ xs.filter q := List.mem_filter.2 ⟨hmem, hq⟩
          rw [hempty] at this; cases this
        subst hbx; exact ⟨le_refl _, fun _ => le_refl _⟩
    · rw [List.filter_cons_of_neg hx] at h
      have hax : a ≠ x := by rintro rfl; exact hx hqa
      have hbx : b ≠ x := by rintro rfl; exact hx hq
      obtain ⟨hle, hidx⟩ := ih h ((List.mem_cons.1 hb).resolve_left hbx)
      rw [tail _ hax, tail _ hbx]
      exact ⟨hle, fun e => by have := hidx e; omega⟩

theorem State.candidate_of_free (h : s.grant c = none) :
    s.candidate c = bestOf s.priorityOf (s.arbiter.callList.filter fun a => decide (a.circuit = c) && s.permitted a) := by
  rw [State.candidate, h]; rfl

theorem State.candidate_of_granted (h : s.grant c ≠ none) : s.candidate c = none := by
  rw [State.candidate, if_pos (Option.isSome_iff_ne_none.2 h)]

/-- The candidate of a circuit is a permitted slot of it on the call list, and the circuit is free. -/
theorem State.of_candidate (h : s.candidate c = some a) :
    s.grant c = none ∧ a ∈ s.arbiter.callList ∧ a.circuit = c ∧ s.permitted a = true := by
  have hfree : s.grant c = none := by
    by_contra hg; rw [State.candidate_of_granted hg] at h; cases h
  rw [State.candidate_of_free hfree] at h
  have hmem := bestOf_mem h
  simp only [List.mem_filter, Bool.and_eq_true, decide_eq_true_eq] at hmem
  exact ⟨hfree, hmem⟩

/-- Settles O29: the candidate is the best of the circuit's permitted slots on the call list. -/
theorem candidatesHavePriority : Obligations.CandidatesHavePriority := by
  unfold Obligations.CandidatesHavePriority
  refine ⟨fun s c hfree => ⟨fun a hcand => ?_, fun hnone b hb hc => ?_⟩, fun s c => State.candidate_of_granted,
    fun s a => ⟨?_, fun k hk => by rw [State.priorityOf, hk]⟩⟩
  · obtain ⟨-, hmem, hcircuit, hperm⟩ := State.of_candidate hcand
    refine ⟨hmem, hcircuit, hperm, fun b hb hbc hbp => ?_⟩
    rw [State.candidate_of_free hfree] at hcand
    exact bestOf_filter_first hcand hb (by simp [hbc, hbp])
  · rw [State.candidate_of_free hfree, bestOf_eq_none_iff, List.filter_eq_nil_iff] at hnone
    simpa [hc] using hnone b hb
  · cases hk : (s.slot a).stroke with
    | none => simp [State.permitted, hk]
    | some k =>
      rw [State.permitted_iff_of_stroke hk, CondSet.within_iff]
      simp [State.cond]

/-! ### The grants of a round (R30) -/

/-- The strokes of two slots may be granted in one round: circuits of their own, and one pump between them. -/
def State.Compatible (s : State) (a b : Actuator) : Prop :=
  a.circuit ≠ b.circuit ∧ ¬(s.isPowered a = true ∧ s.isPowered b = true)

/-- A slot that a grant may go to: it waits, its circuit is free, and the pump with it for a powered stroke. -/
def State.Grantable (s : State) (a : Actuator) : Prop :=
  a ∈ s.arbiter.callList ∧ s.grant a.circuit = none ∧ (s.isPowered a = true → s.arbiter.pumpOwner = none)

theorem State.roundGrants_of_two (ha : s.candidate .liftCircuit = some a) (hb : s.candidate .hatchCircuit = some b) :
    s.roundGrants = if s.arbiter.pumpOwner.isSome then [a, b].filter fun x => !s.isPowered x
      else if s.isPowered a && s.isPowered b then
        (bestOf s.priorityOf (s.arbiter.callList.filter fun x => decide (x = a) || decide (x = b))).toList
      else [a, b] := by
  simp only [State.roundGrants, ha, hb]

theorem State.mem_roundGrants (h : a ∈ s.roundGrants) :
    s.candidate a.circuit = some a ∧ (s.isPowered a = true → s.arbiter.pumpOwner = none) := by
  have hself : ∀ {c x}, s.candidate c = some x → s.candidate x.circuit = some x := fun hc => by
    obtain ⟨-, -, rfl, -⟩ := State.of_candidate hc; exact hc
  cases h1 : s.candidate .liftCircuit with
  | none =>
    cases h2 : s.candidate .hatchCircuit with
    | none => simp [State.roundGrants, h1, h2] at h
    | some y =>
      simp only [State.roundGrants, h1, h2] at h
      split at h
      · cases h
      · next hp => cases List.mem_singleton.1 h; exact ⟨hself h2, by simpa using hp⟩
  | some x =>
    cases h2 : s.candidate .hatchCircuit with
    | none =>
      simp only [State.roundGrants, h1, h2] at h
      split at h
      · cases h
      · next hp => cases List.mem_singleton.1 h; exact ⟨hself h1, by simpa using hp⟩
    | some y =>
      have hof : a = x ∨ a = y → s.candidate a.circuit = some a := by
        rintro (rfl | rfl)
        · exact hself h1
        · exact hself h2
      rw [State.roundGrants_of_two h1 h2] at h
      split at h
      · obtain ⟨hmem, hunpowered⟩ := List.mem_filter.1 h
        exact ⟨hof (by simpa using hmem), fun hp => by simp [hp] at hunpowered⟩
      · next hpump =>
        refine ⟨?_, fun _ => by simpa using hpump⟩
        split at h
        · have := (List.mem_filter.1 (bestOf_mem (Option.mem_toList.1 h))).2
          exact hof (by simpa using this)
        · exact hof (by simpa using h)

theorem State.roundGrants_grantable (h : a ∈ s.roundGrants) : s.Grantable a := by
  obtain ⟨hcand, hpump⟩ := State.mem_roundGrants h
  obtain ⟨hfree, hmem, -, -⟩ := State.of_candidate hcand
  exact ⟨hmem, hfree, hpump⟩

/-- The grants of one round are compatible. -/
theorem State.roundGrants_compatible (s : State) : s.roundGrants.Pairwise s.Compatible := by
  unfold State.roundGrants
  split
  · exact .nil
  · split
    · exact .nil
    · exact List.pairwise_singleton _ _
  · split
    · exact .nil
    · exact List.pairwise_singleton _ _
  · next a b ha hb =>
    have hcircuits : a.circuit ≠ b.circuit := by
      rw [(State.of_candidate ha).2.2.1, (State.of_candidate hb).2.2.1]; decide
    split
    · simp only [List.filter_cons, List.filter_nil]
      split <;> split <;> simp_all [State.Compatible]
    split
    · cases bestOf s.priorityOf _
      · exact .nil
      · exact List.pairwise_singleton _ _
    · next h => simpa [State.Compatible, hcircuits] using h

/-- With the pump owned a round grants the candidates' return strokes. -/
theorem State.mem_roundGrants_of_pumpOwned (hp : s.arbiter.pumpOwner ≠ none) (hc : s.candidate c = some a)
    (hret : s.isPowered a = false) : a ∈ s.roundGrants := by
  have hsome : s.arbiter.pumpOwner.isSome = true := Option.isSome_iff_ne_none.2 hp
  cases h1 : s.candidate .liftCircuit <;> cases h2 : s.candidate .hatchCircuit <;> cases c
  all_goals simp_all [State.roundGrants]

/-- With the pump free a round grants the candidates of both circuits, unless both are powered. -/
theorem State.mem_roundGrants_of_pumpFree (hp : s.arbiter.pumpOwner = none)
    (h : ∀ a b, s.candidate .liftCircuit = some a → s.candidate .hatchCircuit = some b →
      (s.isPowered a && s.isPowered b) = false) (hc : s.candidate c = some a) : a ∈ s.roundGrants := by
  have hchosen : ∀ x y, s.candidate .liftCircuit = some x → s.candidate .hatchCircuit = some y →
      s.roundGrants = [x, y] := fun x y h1 h2 => by
    rw [State.roundGrants_of_two h1 h2, hp, h x y h1 h2]; rfl
  cases h1 : s.candidate .liftCircuit with
  | none =>
    cases c
    · rw [h1] at hc; cases hc
    · simp [State.roundGrants, h1, hc, hp]
  | some x =>
    cases h2 : s.candidate .hatchCircuit with
    | none =>
      cases c
      · rw [h1] at hc; simp [State.roundGrants, h1, h2, hp, Option.some.inj hc]
      · rw [h2] at hc; cases hc
    | some y =>
      rw [hchosen x y h1 h2]
      cases c
      · rw [h1] at hc; simp [Option.some.inj hc]
      · rw [h2] at hc; simp [Option.some.inj hc]

/-- Of two powered candidates a round grants the one before which the other does not stand. -/
theorem State.roundGrants_of_twoPowered (hp : s.arbiter.pumpOwner = none) (h1 : s.candidate .liftCircuit = some a)
    (h2 : s.candidate .hatchCircuit = some b) (ha : s.isPowered a = true) (hb : s.isPowered b = true) :
    ((s.priorityOf b < s.priorityOf a ∨ (s.priorityOf b = s.priorityOf a
        ∧ s.arbiter.callList.idxOf a < s.arbiter.callList.idxOf b)) → s.roundGrants = [a])
      ∧ ((s.priorityOf a < s.priorityOf b ∨ (s.priorityOf a = s.priorityOf b
        ∧ s.arbiter.callList.idxOf b < s.arbiter.callList.idxOf a)) → s.roundGrants = [b]) := by
  obtain ⟨-, hamem, -, -⟩ := State.of_candidate h1
  obtain ⟨-, hbmem, -, -⟩ := State.of_candidate h2
  have hgrants : s.roundGrants
      = (bestOf s.priorityOf (s.arbiter.callList.filter fun x => decide (x = a) || decide (x = b))).toList := by
    rw [State.roundGrants_of_two h1 h2, hp]; simp [ha, hb]
  rw [hgrants]
  cases hbest : bestOf s.priorityOf (s.arbiter.callList.filter fun x => decide (x = a) || decide (x = b)) with
  | none =>
    rw [bestOf_eq_none_iff, List.filter_eq_nil_iff] at hbest
    exact absurd (hbest a hamem) (by simp)
  | some x =>
    have hx : x = a ∨ x = b := by simpa using (List.mem_filter.1 (bestOf_mem hbest)).2
    have hover_a := bestOf_filter_first hbest hamem (by simp)
    have hover_b := bestOf_filter_first hbest hbmem (by simp)
    obtain rfl | rfl := hx
    · exact ⟨fun _ => rfl, fun h => by omega⟩
    · exact ⟨fun h => by omega, fun _ => rfl⟩

/-! ### What a grant leaves (R31) -/

/-- The record of a slot that a round has granted. -/
def Slot.primed (r : Slot) : Slot := { r with state := .priming, holdTimer := none }

theorem State.slot_grantSlot (a b : Actuator) :
    (s.grantSlot a).slot b = if b = a then (s.slot a).primed else s.slot b := by
  by_cases hb : b = a
  · subst hb; rw [if_pos rfl]; exact State.slot_setSlot_self _ b _
  · rw [if_neg hb]; exact State.slot_grantSlot_ne a b (Ne.symm hb)

theorem State.isPowered_grantSlot (a b : Actuator) : (s.grantSlot a).isPowered b = s.isPowered b := by
  unfold State.isPowered; rw [State.slot_grantSlot]; split
  · next e => subst e; rfl
  · rfl

theorem State.grant_grantSlot (a : Actuator) (c : Circuit) :
    (s.grantSlot a).grant c = if a.circuit = c then some a else s.grant c :=
  State.grant_setGrant _ a.circuit c (some a)

theorem State.grantSlot_callList (a : Actuator) :
    (s.grantSlot a).arbiter.callList = s.arbiter.callList.erase a := rfl

theorem State.grantSlot_pumpOwner (a : Actuator) :
    (s.grantSlot a).arbiter.pumpOwner = if s.isPowered a then some a else s.arbiter.pumpOwner := rfl

theorem State.prime_grantSlot (a b : Actuator) :
    (s.grantSlot a).prime b = if b = a then (if s.isPowered a then .running 0 else .stopped) else s.prime b := by
  refine (State.prime_setPrime _ a b _).trans ?_
  by_cases hb : b = a
  · subst hb; rw [if_pos rfl, if_pos rfl, State.isPowered]
    simp only [decide_eq_true_eq]; rfl
  · rw [if_neg hb, if_neg (Ne.symm hb)]; rfl

/-- A grant to a slot that may have one keeps slots and arbiter in agreement. -/
theorem State.SupplyAgrees.grantSlot (h : s.SupplyAgrees) (hg : s.Grantable a) : (s.grantSlot a).SupplyAgrees := by
  obtain ⟨hnodup, hcall, hgrant, hcircuit, hpump⟩ := h
  obtain ⟨hmem, hfree, hpumpFree⟩ := hg
  have hwaits := (hcall a).1 hmem
  have hstate : (s.slot a).primed.state = .priming := rfl
  have hstroke : (s.slot a).primed.stroke = (s.slot a).stroke := rfl
  refine ⟨?_, fun b => ?_, fun b => ?_, fun c b hb => ?_, fun b => ?_⟩
  · exact hnodup.erase a
  · rw [State.grantSlot_callList, hnodup.mem_erase_iff, State.slot_grantSlot, hcall b]
    split
    · next e => simp [e, hstate]
    · next e => simp [e]
  · rw [State.grant_grantSlot, State.slot_grantSlot]
    by_cases hb : b = a
    · subst hb; simp [hstate, SlotState.granted]
    · rw [if_neg hb, ← hgrant b]
      split
      · next e => rw [← e, hfree]; simp [Ne.symm hb]
      · exact Iff.rfl
  · rw [State.grant_grantSlot] at hb
    split at hb
    · next e => cases hb; exact e
    · exact hcircuit c b hb
  · rw [State.grantSlot_pumpOwner, State.slot_grantSlot]
    by_cases hb : b = a
    · subst hb
      simp only [if_pos, hstate, hstroke, State.isPowered, SlotState.granted, true_and, decide_eq_true_eq]
      split
      · next e => simp [e]
      · next e =>
        simp only [e, iff_false]
        exact fun ho => e ((hpump b).1 ho).2
    · rw [if_neg hb, ← hpump b]
      split
      · next e => rw [hpumpFree e]; simp [Ne.symm hb]
      · exact Iff.rfl

/-- A grant leaves what is compatible with it as grantable as it was. -/
theorem State.Grantable.grantSlot (hb : s.Grantable b) (hc : s.Compatible a b) : (s.grantSlot a).Grantable b := by
  obtain ⟨hmem, hfree, hpump⟩ := hb
  obtain ⟨hcircuit, hpowered⟩ := hc
  have hne : b ≠ a := by rintro rfl; exact hcircuit rfl
  refine ⟨(List.mem_erase_of_ne hne).2 hmem, ?_, fun hp => ?_⟩
  · rw [State.grant_grantSlot, if_neg hcircuit]; exact hfree
  · rw [State.isPowered_grantSlot] at hp
    rw [State.grantSlot_pumpOwner, if_neg fun ha => hpowered ⟨ha, hp⟩]
    exact hpump hp

theorem State.Compatible.grantSlot {x : Actuator} (h : s.Compatible a b) : (s.grantSlot x).Compatible a b := by
  unfold State.Compatible at *
  rw [State.isPowered_grantSlot, State.isPowered_grantSlot]
  exact h

theorem State.SupplyAgrees.grants {xs : List Actuator} (h : s.SupplyAgrees) (hg : ∀ x ∈ xs, s.Grantable x)
    (hc : xs.Pairwise s.Compatible) : (xs.foldl State.grantSlot s).SupplyAgrees := by
  induction xs generalizing s with
  | nil => exact h
  | cons x xs ih =>
    obtain ⟨hx, hxs⟩ := List.pairwise_cons.1 hc
    refine ih (h.grantSlot (hg x List.mem_cons_self)) (fun y hy => ?_) (hxs.imp State.Compatible.grantSlot)
    exact (hg y (List.mem_cons_of_mem _ hy)).grantSlot (hx y hy)

theorem State.slot_grants (xs : List Actuator) (b : Actuator) :
    (xs.foldl State.grantSlot s).slot b = if b ∈ xs then (s.slot b).primed else s.slot b := by
  induction xs generalizing s with
  | nil => rfl
  | cons x xs ih =>
    rw [List.foldl_cons, ih, State.slot_grantSlot]
    by_cases hx : b = x
    · subst hx; simp [Slot.primed]
    · simp [hx]

theorem State.prime_grants {xs : List Actuator} (hx : a ∈ xs) :
    (xs.foldl State.grantSlot s).prime a = if s.isPowered a then .running 0 else .stopped := by
  suffices h : ∀ s : State, (xs.foldl State.grantSlot s).prime a
      = if a ∈ xs then (if s.isPowered a then .running 0 else .stopped) else s.prime a by
    rw [h s, if_pos hx]
  clear hx
  induction xs with
  | nil => intro s; simp
  | cons x xs ih =>
    intro s
    rw [List.foldl_cons, ih, State.isPowered_grantSlot, State.prime_grantSlot]
    by_cases hax : a = x
    · subst hax; simp
    · simp [hax]

/-! ### The round -/

theorem State.takeRound_of_ready (h : s.device.state = .ready) :
    s.takeRound = s.roundGrants.foldl State.grantSlot s := by
  rw [State.takeRound, if_pos h]

theorem State.takeRound_of_not_ready (h : s.device.state ≠ .ready) : s.takeRound = s := by
  rw [State.takeRound, if_neg h]

theorem State.SupplyAgrees.takeRound (h : s.SupplyAgrees) : s.takeRound.SupplyAgrees := by
  unfold State.takeRound
  split
  · exact h.grants (fun _ => State.roundGrants_grantable) s.roundGrants_compatible
  · exact h

theorem State.slot_takeRound (h : s.device.state = .ready) (b : Actuator) :
    s.takeRound.slot b = if b ∈ s.roundGrants then (s.slot b).primed else s.slot b := by
  rw [State.takeRound_of_ready h, State.slot_grants]

/-- A circuit's grant is of that circuit, and names the slot that holds it. -/
theorem State.SupplyAgrees.grant_iff (h : s.SupplyAgrees) :
    s.grant c = some a ↔ a.circuit = c ∧ (s.slot a).state.granted = true := by
  obtain ⟨-, -, hgrant, hcircuit, -⟩ := h
  constructor
  · intro hg
    obtain rfl := hcircuit c a hg
    exact ⟨rfl, (hgrant a).1 hg⟩
  · rintro ⟨rfl, hs⟩
    exact (hgrant a).2 hs

/-- A round that makes no grant in a circuit leaves its grant as it was. -/
theorem State.grant_takeRound_of_none (h : s.SupplyAgrees) (hr : s.device.state = .ready)
    (hc : ∀ x ∈ s.roundGrants, x.circuit ≠ c) : s.takeRound.grant c = s.grant c := by
  refine Option.ext fun b => ?_
  rw [h.takeRound.grant_iff, h.grant_iff, State.slot_takeRound hr]
  split
  · next hb => simp [hc b hb]
  · exact Iff.rfl

theorem State.grant_takeRound_of_mem (h : s.SupplyAgrees) (hr : s.device.state = .ready) (ha : a ∈ s.roundGrants) :
    s.takeRound.grant a.circuit = some a := by
  rw [h.takeRound.grant_iff, State.slot_takeRound hr, if_pos ha]
  exact ⟨rfl, rfl⟩

/-- The slots that a round takes from another state to PRIMING are the ones it grants. -/
theorem State.primed_by_takeRound_iff (h : s.SupplyAgrees) (hr : s.device.state = .ready) :
    ((s.takeRound.slot a).state = .priming ∧ (s.slot a).state ≠ .priming) ↔ a ∈ s.roundGrants := by
  rw [State.slot_takeRound hr]
  constructor
  · rintro ⟨hnow, hbefore⟩
    by_contra hno
    rw [if_neg hno] at hnow
    exact hbefore hnow
  · intro ha
    have hwaits := (h.2.1 a).1 (State.roundGrants_grantable ha).1
    rw [if_pos ha, hwaits]
    exact ⟨rfl, nofun⟩

/-- Settles O28: a round's grants are its candidates as R30 chooses among them, and the agreement of slots and arbiter tells
what the grants leave. -/
theorem roundsGrant : Obligations.RoundsGrant := by
  unfold Obligations.RoundsGrant
  refine ⟨fun s h => State.takeRound_of_not_ready h, fun s h hr => ?_⟩
  have hagrees := h.takeRound
  have hnone : ∀ {c}, (∀ x ∈ s.roundGrants, x.circuit ≠ c) → s.takeRound.grant c = s.grant c :=
    State.grant_takeRound_of_none h hr
  have hself : ∀ {c a}, s.candidate c = some a → a ∈ s.roundGrants → s.takeRound.grant c = some a := by
    rintro c a hc ha
    obtain ⟨-, -, rfl, -⟩ := State.of_candidate hc
    exact State.grant_takeRound_of_mem h hr ha
  refine ⟨fun a ha => ?_, fun a ha => ?_, fun c hc => ?_, fun hp hone c a hc => ?_, fun hp a b h1 h2 ha hb => ?_,
    fun hp c a hc => ⟨fun ha => ?_, fun ha => ?_⟩⟩
  · have hmem := (State.primed_by_takeRound_iff h hr).1 ha
    obtain ⟨hcall, hfree, hpump⟩ := State.roundGrants_grantable hmem
    obtain ⟨hcand, -⟩ := State.mem_roundGrants hmem
    have hslot : s.takeRound.slot a = (s.slot a).primed := by rw [State.slot_takeRound hr, if_pos hmem]
    refine ⟨hcall, (State.of_candidate hcand).2.2.2, hfree, State.grant_takeRound_of_mem h hr hmem,
      fun hpow => ⟨hpump hpow, ?_⟩, ?_, hslot, ?_⟩
    · rw [hagrees.2.2.2.2 a, hslot]
      exact ⟨rfl, (State.isPowered_iff s a).1 hpow⟩
    · rw [hagrees.2.1 a, hslot]; nofun
    · rw [State.takeRound_of_ready hr]; exact State.prime_grants hmem
  · have hno : a ∉ s.roundGrants := fun hmem => ha ((State.primed_by_takeRound_iff h hr).2 hmem)
    rw [State.slot_takeRound hr, if_neg hno]
  · refine hnone fun x hx hxc => ?_
    obtain ⟨hcand, -⟩ := State.mem_roundGrants hx
    rw [hxc, hc] at hcand; cases hcand
  · exact hself hc (State.mem_roundGrants_of_pumpFree hp hone hc)
  · obtain ⟨hfree1, -, hc1, -⟩ := State.of_candidate h1
    obtain ⟨hfree2, -, hc2, -⟩ := State.of_candidate h2
    obtain ⟨hfirst, hsecond⟩ := State.roundGrants_of_twoPowered hp h1 h2 ha hb
    constructor
    · intro hover
      have hgrants := hfirst hover
      refine ⟨hself h1 (by simp [hgrants]), (hnone ?_).trans hfree2⟩
      simp [hgrants, hc1]
    · intro hover
      have hgrants := hsecond hover
      refine ⟨(hnone ?_).trans hfree1, hself h2 (by simp [hgrants])⟩
      simp [hgrants, hc2]
  · obtain ⟨hfree, -, -, -⟩ := State.of_candidate hc
    refine (hnone fun x hx hxc => ?_).trans hfree
    obtain ⟨hcand, hpump⟩ := State.mem_roundGrants hx
    rw [hxc, hc] at hcand
    cases hcand
    exact hp (hpump ha)
  · exact hself hc (State.mem_roundGrants_of_pumpOwned hp hc ha)

end Sys2Proof.Machine

/-! O57: slots and arbiter in agreement, every slot sound, and rest outside READY, through every step (R2, R21 to R33, R143). -/

namespace Sys2Proof.Machine

variable {s t u : State} {a : Actuator} {c : Ctx}

/-! ### The motions of a part: its slots, its arbiter and its contexts -/

/-- What the invariants of O57 read, the device state apart. -/
def State.motions (s : State) : Table Slot 4 × Arbiter × Table Context 2 := (s.slots, s.arbiter, s.contexts)

/-- Every slot and both contexts are IDLE. -/
def State.AtRest (s : State) : Prop := (∀ a, (s.slot a).state = .idle) ∧ ∀ c, (s.context c).state = .idle

/-- Outside READY every slot and both contexts are IDLE (R143). -/
def State.Rests (s : State) : Prop := s.device.state ≠ .ready → s.AtRest

/-- The three invariants of O57 together. -/
def State.Orderly (s : State) : Prop := s.SupplySound ∧ s.Rests

theorem State.Orderly.intro (h : s.SupplySound) (hr : s.Rests) : s.Orderly := ⟨h, hr⟩

theorem State.slot_of_motions (h : t.motions = s.motions) (a : Actuator) : t.slot a = s.slot a :=
  congrArg (fun m => m.1.get a.ix) h

theorem State.context_of_motions (h : t.motions = s.motions) (c : Ctx) : t.context c = s.context c :=
  congrArg (fun m => m.2.2.get c) h

theorem State.SupplySound.of_motions (h : s.SupplySound) (hm : t.motions = s.motions) : t.SupplySound := by
  have harbiter : t.arbiter = s.arbiter := congrArg (fun m => m.2.1) hm
  exact h.congr (congrArg (fun m => m.1) hm) (by rw [harbiter]) (by rw [harbiter]) (by rw [harbiter])

theorem State.AtRest.of_motions (h : s.AtRest) (hm : t.motions = s.motions) : t.AtRest :=
  ⟨fun a => by rw [State.slot_of_motions hm]; exact h.1 a, fun c => by rw [State.context_of_motions hm]; exact h.2 c⟩

theorem State.Rests.of_ready (h : s.device.state = .ready) : s.Rests := fun hn => absurd h hn

theorem State.Rests.of_atRest (h : s.AtRest) : s.Rests := fun _ => h

/-- What leaves READY where it is, and a part at rest at rest, keeps rest outside READY. -/
theorem State.Rests.keep (h : s.Rests) (hd : t.device.state = s.device.state) (hr : s.AtRest → t.AtRest) : t.Rests :=
  fun hn => hr (h (by rw [← hd]; exact hn))

theorem State.Rests.of_motions (h : s.Rests) (hd : t.device.state = s.device.state) (hm : t.motions = s.motions) : t.Rests :=
  h.keep hd fun hr => hr.of_motions hm

theorem State.Orderly.of_motions (h : s.Orderly) (hd : t.device.state = s.device.state) (hm : t.motions = s.motions) :
    t.Orderly :=
  ⟨h.1.of_motions hm, h.2.of_motions hd hm⟩

/-- In a part at rest nothing is called or granted. -/
theorem State.SupplyAgrees.of_idle (h : s.SupplyAgrees) (hs : ∀ a, (s.slot a).state = .idle) :
    s.arbiter.callList = [] ∧ (∀ c, s.grant c = none) ∧ s.arbiter.pumpOwner = none := by
  obtain ⟨-, hcall, hgrant, hcircuit, hpump⟩ := h
  refine ⟨List.eq_nil_iff_forall_not_mem.2 fun a ha => ?_, fun c => ?_, ?_⟩
  · rw [hcall, hs] at ha; cases ha
  · rw [Option.eq_none_iff_forall_ne_some]
    intro a hg
    obtain rfl := hcircuit c a hg
    rw [hgrant, hs] at hg; cases hg
  · rw [Option.eq_none_iff_forall_ne_some]
    intro a hp
    rw [hpump, hs] at hp; cases hp.1

theorem State.orderly_iff : s.Orderly ↔ s.SupplyAgrees ∧ s.SlotsSound ∧ s.RestsUnlessReady := by
  constructor
  · rintro ⟨⟨hagrees, hsound⟩, hrests⟩
    refine ⟨hagrees, hsound, fun hn => ?_⟩
    obtain ⟨hslots, hcontexts⟩ := hrests hn
    exact ⟨State.slotsIdle_iff.2 hslots, State.contextsIdle_iff.2 hcontexts, hagrees.of_idle hslots⟩
  · rintro ⟨hagrees, hsound, hrests⟩
    refine ⟨⟨hagrees, hsound⟩, fun hn => ?_⟩
    obtain ⟨hslots, hcontexts, -⟩ := hrests hn
    exact ⟨State.slotsIdle_iff.1 hslots, State.contextsIdle_iff.1 hcontexts⟩

/-! ### What leaves the motions alone -/

@[simp] theorem State.derive_motions : s.derive.motions = s.motions := by
  have h1 : ∀ v : State, v.deriveHatches.motions = v.motions := fun _ => rfl
  have h2 : ∀ v : State, v.deriveConds.motions = v.motions := fun _ => rfl
  have h3 : ∀ v : State, v.deriveLamps.motions = v.motions := fun _ => rfl
  have h4 : ∀ v : State, v.deriveReady.motions = v.motions := fun _ => rfl
  have h5 : ∀ v : State, v.deriveRequests.motions = v.motions := fun _ => rfl
  have h6 : ∀ v : State, v.deriveChannels.motions = v.motions := fun _ => rfl
  have h7 : ∀ v : State, v.deriveStuck.motions = v.motions := fun _ => rfl
  rw [State.derive, h7, h6, h5, h4, h3, h2, h1]

@[simp] theorem State.push_motions (x : Arrival) : (s.push x).motions = s.motions := rfl

@[simp] theorem State.removeEntry_motions (k : FaultKind) (v : Subject) : (s.removeEntry k v).motions = s.motions := by
  rw [State.removeEntry_rest]; rfl

@[simp] theorem State.takeOccurrence_motions (k : FaultKind) (v : Subject) : (s.takeOccurrence k v).motions = s.motions := by
  unfold State.takeOccurrence
  split
  · rfl
  split
  · rfl
  split
  · exact State.removeEntry_motions _ _
  · rfl

@[simp] theorem State.takeConditionEnd_motions (k : FaultKind) (v : Subject) :
    (s.takeConditionEnd k v).motions = s.motions := by
  unfold State.takeConditionEnd
  split
  · split
    · rfl
    split
    · exact State.removeEntry_motions _ _
    · rfl
  · rfl

@[simp] theorem State.acknowledge_motions (k : FaultKind) (v : Subject) : (s.acknowledge k v).motions = s.motions := by
  unfold State.acknowledge; dsimp only; split
  · exact State.removeEntry_motions _ _
  · rfl

@[simp] theorem State.judgeSwitches_motions (h : Hatch) : (s.judgeSwitches h).motions = s.motions := by
  unfold State.judgeSwitches; dsimp only; repeat' split
  all_goals rfl

@[simp] theorem State.testOverload_motions : s.testOverload.motions = s.motions := by
  unfold State.testOverload; dsimp only; repeat' split
  all_goals rfl

@[simp] theorem State.endStuck_motions : s.endStuck.motions = s.motions := by
  unfold State.endStuck; split <;> rfl

@[simp] theorem State.stuckExpired_motions : s.stuckExpired.motions = s.motions := by
  unfold State.stuckExpired; split <;> rfl

/-! ### The contexts leave slots and arbiter alone -/

theorem State.SupplySound.judgeReport (h : s.SupplySound) (c : Ctx) (a : Actuator) (o : Ending) :
    (s.judgeReport c a o).SupplySound := by
  rw [State.judgeReport_rest]; exact h

theorem State.SupplySound.stepDone (h : s.SupplySound) (c : Ctx) (ok : Bool) : (s.stepDone c ok).SupplySound := by
  unfold State.stepDone; dsimp only; split <;> exact h

theorem State.SupplySound.takeAnswer (h : s.SupplySound) (c : Ctx) (r : Result) : (s.takeAnswer c r).SupplySound := by
  unfold State.takeAnswer
  split
  all_goals first
    | exact h.stepDone c _
    | exact h

theorem State.SupplySound.tryStep (h : s.SupplySound) (c : Ctx) : (s.tryStep c).SupplySound := by
  unfold State.tryStep
  split
  · exact (h.postMotion c _).takeAnswer c _
  · split
    · exact h.stepDone c _
    · exact h
  · exact h.stepDone c _

theorem State.SupplySound.startStep (h : s.SupplySound) (c : Ctx) (i : Fin 32) : (s.startStep c i).SupplySound := by
  unfold State.startStep
  dsimp only
  split
  · exact h
  split
  · exact h
  split
  · exact h
  · exact State.SupplySound.tryStep (h.congr) c

theorem State.SupplySound.slotFree (h : s.SupplySound) (c : Ctx) (a : Actuator) : (s.slotFree c a).SupplySound := by
  unfold State.slotFree; split
  · exact h.tryStep c
  · exact h

theorem State.SupplySound.contextCondition (h : s.SupplySound) (c : Ctx) (n : Cond) :
    (s.contextCondition c n).SupplySound := by
  unfold State.contextCondition
  dsimp only
  repeat' split
  all_goals first
    | exact h
    | exact h.stepDone c _

theorem State.SupplySound.stopContext (h : s.SupplySound) (c : Ctx) : (s.stopContext c).SupplySound := by
  unfold State.stopContext; split <;> exact h

theorem State.SupplySound.takeRound (h : s.SupplySound) : s.takeRound.SupplySound := by
  refine ⟨h.1.takeRound, fun b => ?_⟩
  by_cases hr : s.device.state = .ready
  · rw [State.slot_takeRound hr]
    split
    · next hb =>
      have hwaits := (h.1.2.1 b).1 (State.roundGrants_grantable hb).1
      have hkept : (s.slot b).state.keptAlive = true := by rw [hwaits]; rfl
      exact (Slot.sound_of_keptAlive (r := (s.slot b).primed) rfl).2 ((Slot.sound_of_keptAlive hkept).1 (h.2 b))
    · exact h.2 b
  · rw [State.takeRound_of_not_ready hr]; exact h.2 b

/-! ### STOPPED entry (R23, R149) -/

theorem State.judgeReport_of_idle (hc : (s.context c).state = .idle) (a : Actuator) (o : Ending) :
    s.judgeReport c a o = s := by
  unfold State.judgeReport; simp [hc]

/-- The contexts through a stop of one slot, where they are IDLE already. -/
theorem State.context_stopSlot (h : ∀ c, (s.context c).state = .idle) (a : Actuator) (c : Ctx) :
    (s.stopSlot a).context c = s.context c := by
  have hrecord : ∀ o, (s.completeRecord a o).contexts = s.contexts := fun o => by
    unfold State.completeRecord State.releaseGrant State.leaveCallList State.stopProfile
    dsimp only
    repeat' split
    all_goals rfl
  have hcontext : ∀ o c, (s.completeRecord a o).context c = s.context c := fun o c => congrArg (fun m => m.get c) (hrecord o)
  have hcomplete : (s.complete a .stopped).context c = s.context c := by
    unfold State.complete
    dsimp only
    split
    · rw [State.judgeReport_of_idle (by rw [hcontext]; exact h _)]; exact hcontext _ c
    · exact hcontext _ c
  unfold State.stopSlot
  dsimp only
  cases (s.slot a).state
  all_goals first
    | rfl
    | exact hcomplete

/-- STOPPED entry at the slots, one after another: those stopped are IDLE, and what was IDLE stays so. -/
theorem State.stopSlots_idle (h : ∀ c, (s.context c).state = .idle) (xs : List Actuator) :
    (∀ c, ((xs.foldl State.stopSlot s).context c).state = .idle)
      ∧ ∀ b, b ∈ xs ∨ (s.slot b).state = .idle → ((xs.foldl State.stopSlot s).slot b).state = .idle := by
  induction xs generalizing s with
  | nil => exact ⟨h, fun b hb => hb.resolve_left List.not_mem_nil⟩
  | cons x xs ih =>
    obtain ⟨hcontexts, hslots⟩ := ih (s := s.stopSlot x) fun c => by rw [State.context_stopSlot h]; exact h c
    refine ⟨hcontexts, fun b hb => hslots b ?_⟩
    rw [State.slot_stopSlot_state]
    by_cases hbx : x = b
    · exact .inr (if_pos hbx)
    · rw [if_neg hbx]
      exact hb.imp_left fun hmem => (List.mem_cons.1 hmem).resolve_left (Ne.symm hbx)

theorem Ctx.eq_zero_or_one (c : Ctx) : c = 0 ∨ c = 1 := by revert c; decide

theorem Actuator.mem_all (a : Actuator) : a ∈ Actuator.all := by cases a <;> decide

/-- After the stops of the contexts and the slots (R23, R113). -/
theorem State.stops_atRest (s : State) : (Actuator.all.foldl State.stopSlot ((s.stopContext 0).stopContext 1)).AtRest := by
  have hcontexts : ∀ c, (((s.stopContext 0).stopContext 1).context c).state = .idle := by
    intro c
    rw [State.context_stopContext_state, State.context_stopContext_state]
    obtain rfl | rfl := Ctx.eq_zero_or_one c <;> rfl
  obtain ⟨hc, hs⟩ := State.stopSlots_idle hcontexts Actuator.all
  exact ⟨fun a => hs a (.inl (Actuator.mem_all a)), hc⟩

theorem State.SupplySound.setDeviceState (h : s.SupplySound) (d : DeviceState) : (s.setDeviceState d).SupplySound :=
  h.of_motions rfl

theorem State.SupplySound.stops (h : s.SupplySound) :
    (Actuator.all.foldl State.stopSlot ((s.stopContext 0).stopContext 1)).SupplySound :=
  foldl_preserves (P := State.SupplySound) (fun _ a h => State.SupplySound.stopSlot h a) _ _ ((h.stopContext 0).stopContext 1)

/-- The arbiter is emptied (R33): in a part at rest that is no change of its call list. -/
theorem State.SupplySound.emptyArbiter (h : s.SupplySound) (hr : s.AtRest) :
    State.SupplySound { s with arbiter := { s.arbiter with callList := [], prime := Table.fill 4 .stopped } } :=
  h.congr (hc := (h.1.of_idle hr.1).1.symm)

theorem State.AtRest.setArbiter (h : s.AtRest) (r : Arbiter) : State.AtRest { s with arbiter := r } := h

theorem State.enterStopped_atRest (s : State) : s.enterStopped.AtRest :=
  (State.stops_atRest (s.setDeviceState .stopped)).setArbiter _

theorem State.enterStopped_supplySound (h : (s.setDeviceState .stopped).SupplySound) : s.enterStopped.SupplySound := by
  unfold State.enterStopped
  dsimp only
  exact State.SupplySound.emptyArbiter h.stops (State.stops_atRest (s.setDeviceState .stopped))

theorem State.SupplySound.enterStopped (h : s.SupplySound) : s.enterStopped.SupplySound :=
  State.enterStopped_supplySound (h.setDeviceState .stopped)

theorem State.Orderly.enterStopped (h : s.SupplySound) : s.enterStopped.Orderly :=
  .intro h.enterStopped (.of_atRest s.enterStopped_atRest)

/-! ### Nothing moves in a part at rest -/

theorem State.endMotion_of_idle (h : (s.slot a).state = .idle) (o : Ending) : s.endMotion a o = s := by
  unfold State.endMotion; simp [h]

theorem State.AtRest.foldl_eq {β : Type} {op : State → β → State} (hop : ∀ x, op s x = s) (xs : List β) :
    xs.foldl op s = s := by
  induction xs with
  | nil => rfl
  | cons x xs ih => rw [List.foldl_cons, hop, ih]

theorem State.AtRest.runEndTest (h : s.AtRest) (a : Actuator) : s.runEndTest a = s := by
  unfold State.runEndTest; simp [h.1 a]

theorem State.AtRest.primeTests (h : s.AtRest) : s.primeTests = s :=
  State.AtRest.foldl_eq (fun a => by simp [State.primeTestOf, h.1 a]) _

theorem State.AtRest.slotsTakeCondition (h : s.AtRest) (n : Cond) (v : Bool) : s.slotsTakeCondition n v = s := by
  unfold State.slotsTakeCondition
  split
  · split
    · exact State.AtRest.foldl_eq (fun a => by simp [State.regainGate, h.1 a]) _
    · rfl
  · exact State.AtRest.foldl_eq (fun a => by simp [State.loseCondition, h.1 a, SlotState.granted]) _

theorem State.AtRest.contextCondition (h : s.AtRest) (c : Ctx) (n : Cond) : s.contextCondition c n = s := by
  simp [State.contextCondition, h.2 c]

theorem State.AtRest.slotFree (h : s.AtRest) (c : Ctx) (a : Actuator) : s.slotFree c a = s := by
  simp [State.slotFree, State.waitsForSlot, h.2 c]

theorem State.AtRest.startStep (h : s.AtRest) (c : Ctx) (i : Fin 32) : s.startStep c i = s := by
  simp [State.startStep, h.2 c]

theorem State.AtRest.endGranted (h : s.AtRest) (a : Actuator) (o : Ending) : s.endGranted a o = s := by
  simp [State.endGranted, h.1 a, SlotState.granted]

/-! ### Arrivals -/

theorem State.takeCondition_motions (n : Cond) (v : Bool) :
    (s.takeCondition n v).motions = ((s.slotsTakeCondition n v).contextsTakeCondition n).motions := by
  unfold State.takeCondition; dsimp only; rw [State.push_motions]; split
  · exact State.push_motions _
  · rfl

theorem State.SupplySound.takeReadiness (h : s.SupplySound) (a : Actuator) (k : Stroke) (cause : Option Cause) :
    (s.takeReadiness a k cause).SupplySound := by
  unfold State.takeReadiness
  split
  · split
    · exact h.endGranted a _
    · exact h
  · exact h

theorem State.AtRest.takeReadiness (h : s.AtRest) (a : Actuator) (k : Stroke) (cause : Option Cause) :
    s.takeReadiness a k cause = s.push .round := by
  unfold State.takeReadiness
  split
  · rw [h.endGranted, ite_self]
  · rfl

theorem State.SupplySound.take (h : s.SupplySound) (x : Arrival) : (s.take x).SupplySound := by
  cases x
  case round => exact h.takeRound
  case primeTest => exact h.primeTests
  case condition n v =>
    refine State.SupplySound.of_motions ?_ (State.takeCondition_motions n v)
    exact ((h.slotsTakeCondition n v).contextCondition 0 n).contextCondition 1 n
  case readiness a k cause => exact h.takeReadiness a k cause
  case hatchMoved g => exact (h.of_motions (State.judgeSwitches_motions g)).runEndTest g.actuator
  case reported m =>
    cases m
    · exact h.runEndTest .lift
    · exact h.runEndTest .tilt
    · exact h.testOverload
  case slotFree a => exact (h.slotFree 0 a).slotFree 1 a
  case occurrence k v => exact h.of_motions (State.takeOccurrence_motions k v)
  case conditionEnd k v => exact h.of_motions (State.takeConditionEnd_motions k v)
  case stepStart c i => exact h.startStep c i
  case movement =>
    change s.movementRule.SupplySound
    unfold State.movementRule
    split
    · exact h.enterStopped.of_motions (State.push_motions _)
    · exact h

/-- An arrival at a part at rest outside READY moves nothing. -/
theorem State.AtRest.take_motions (h : s.AtRest) (hn : s.device.state ≠ .ready) (x : Arrival) :
    (s.take x).motions = s.motions := by
  cases x
  case round => exact congrArg State.motions (State.takeRound_of_not_ready hn)
  case primeTest => exact congrArg State.motions h.primeTests
  case condition n v =>
    refine (State.takeCondition_motions n v).trans ?_
    rw [h.slotsTakeCondition, State.contextsTakeCondition, h.contextCondition, h.contextCondition]
  case readiness a k cause => exact (congrArg State.motions (h.takeReadiness a k cause)).trans (State.push_motions _)
  case hatchMoved g =>
    have hm := State.judgeSwitches_motions (s := s) g
    exact (congrArg State.motions ((h.of_motions hm).runEndTest g.actuator)).trans hm
  case reported m =>
    cases m
    · exact congrArg State.motions (h.runEndTest .lift)
    · exact congrArg State.motions (h.runEndTest .tilt)
    · exact State.testOverload_motions
  case slotFree a =>
    refine congrArg State.motions ?_
    change (s.slotFree 0 a).slotFree 1 a = s
    rw [h.slotFree, h.slotFree]
  case occurrence k v => exact State.takeOccurrence_motions k v
  case conditionEnd k v => exact State.takeConditionEnd_motions k v
  case stepStart c i => exact congrArg State.motions (h.startStep c i)
  case movement =>
    refine congrArg State.motions ?_
    change s.movementRule = s
    unfold State.movementRule; simp [hn]

/-- A READY part that an arrival stops is at rest (R148). -/
theorem State.take_atRest_of_stopped (hr : s.device.state = .ready) (x : Arrival) (hn : (s.take x).device.state ≠ .ready) :
    (s.take x).AtRest := by
  cases x
  case movement =>
    change s.movementRule.device.state ≠ .ready at hn
    change s.movementRule.AtRest
    unfold State.movementRule at hn ⊢
    split at hn
    · next h => rw [if_pos h]; exact s.enterStopped_atRest.of_motions (State.push_motions _)
    · exact absurd hr hn
  case condition n v => exact absurd ((State.takeCondition_deviceState _ n v).trans hr) hn
  all_goals
    refine absurd (Eq.trans ?_ hr) hn
    simp [State.take]

theorem State.Orderly.take (h : s.Orderly) (x : Arrival) : (s.take x).Orderly := by
  refine ⟨h.1.take x, fun hn => ?_⟩
  by_cases hr : s.device.state = .ready
  · exact State.take_atRest_of_stopped hr x hn
  · exact (h.2 hr).of_motions ((h.2 hr).take_motions hr x)

theorem State.Orderly.finish (h : s.Orderly) : s.finish.Orderly :=
  State.finish_keeps State.Orderly (fun u h => h.of_motions u.derive_deviceState State.derive_motions)
    (fun _ x h => h.take x) (fun u _ h => State.Orderly.of_motions (s := u) h rfl rfl) s h

theorem State.Orderly.testDormancy (h : s.Orderly) : s.testDormancy.Orderly := by
  obtain e | ⟨hdoze, e⟩ := s.testDormancy_cases <;> rw [e]
  · exact h
  · refine ⟨h.1.of_motions rfl, .of_atRest ?_⟩
    unfold State.mayDoze at hdoze
    simp only [Bool.and_eq_true] at hdoze
    obtain ⟨⟨⟨⟨-, hslots⟩, hcontexts⟩, -⟩, -⟩ := hdoze
    have hrest : s.AtRest := ⟨State.slotsIdle_iff.1 hslots, State.contextsIdle_iff.1 hcontexts⟩
    exact hrest.of_motions rfl

theorem State.Orderly.finishEvent (h : s.Orderly) : s.finishEvent.Orderly := h.finish.testDormancy

end Sys2Proof.Machine

/-! O57: the events, the requests, the resets and the tick keep slots and arbiter in order. -/

namespace Sys2Proof.Machine

variable {s t u : State} {a : Actuator} {c : Ctx}

/-! ### Resets -/

/-- Idle slots, and an arbiter that has nothing called or granted. -/
theorem State.supplyAgrees_of_idle (hs : ∀ a, (s.slot a).state = .idle) (hcall : s.arbiter.callList = [])
    (hgrant : ∀ c, s.grant c = none) (hpump : s.arbiter.pumpOwner = none) : s.SupplyAgrees := by
  refine ⟨by rw [hcall]; exact .nil, fun a => ?_, fun a => ?_, fun c a h => ?_, fun a => ?_⟩
  · rw [hcall, hs]; simp
  · rw [hgrant, hs]; simp [SlotState.granted]
  · rw [hgrant] at h; cases h
  · rw [hpump, hs]; simp [SlotState.granted]

theorem State.reset_slot (a : Actuator) : State.reset.slot a = resetSlot := Table.get_fill _ _

theorem State.reset_atRest : State.reset.AtRest :=
  ⟨fun a => by rw [State.reset_slot]; rfl, fun c => congrArg Context.state (Table.get_fill resetContext c)⟩

theorem State.reset_orderly : State.reset.Orderly := by
  refine .intro ⟨State.supplyAgrees_of_idle State.reset_atRest.1 rfl (fun c => Table.get_fill _ _) rfl, fun a => ?_⟩
    (.of_atRest State.reset_atRest)
  rw [State.reset_slot]
  exact ⟨rfl, LinkTimers.isEmpty_none, rfl, LinkTimers.isEmpty_none⟩

theorem State.resetBlocks_orderly (k : ResetKind) : (s.resetBlocks k).Orderly :=
  State.reset_orderly.of_motions (s := State.reset) rfl rfl

theorem State.resetPart_orderly (k : ResetKind) : (s.resetPart k).Orderly :=
  (s.resetBlocks_orderly k).of_motions (s := s.resetBlocks k) rfl rfl

/-! ### Inputs that change -/

theorem State.Orderly.estopChanged (h : s.Orderly) : s.estopChanged.Orderly := by
  unfold State.estopChanged
  split
  · exact h
  split
  · have hflag : ∀ v, v = (if s.device.estopFlag then s
        else ({ s with device := { s.device with estopFlag := true } }).push (.occurrence .estop .none)) → v.Orderly := by
      rintro v rfl
      split
      · exact h
      · exact h.of_motions rfl rfl
    dsimp only
    split
    · exact .enterStopped (hflag _ rfl).1
    · exact hflag _ rfl
  split
  · exact h.of_motions rfl rfl
  · exact h

theorem State.SupplySound.failPriming (h : s.SupplySound) (a : Actuator) : (s.failPriming a).SupplySound :=
  (h.endMotion a .pumpFault).of_motions (State.push_motions _)

theorem State.SupplySound.pumprunChanged (h : s.SupplySound) : s.pumprunChanged.SupplySound := by
  have hlost : s.pumpRunLost.SupplySound := by
    unfold State.pumpRunLost
    split
    · split
      · exact (h.endMotion _ .pumpFault).of_motions (State.push_motions _)
      · exact h
    · exact h
  have hpassed : ∀ v a, State.SupplySound v → (State.passedPriming v a).SupplySound := by
    intro v a hv
    unfold State.passedPriming; split
    · exact hv.failPriming a
    · exact hv
  unfold State.pumprunChanged
  split
  · exact h.of_motions (State.push_motions _)
  · exact (foldl_preserves (P := State.SupplySound) hpassed _ _ hlost).of_motions State.endStuck_motions

theorem State.AtRest.pumprunChanged (h : s.AtRest) : s.pumprunChanged.motions = s.motions := by
  have hlost : s.pumpRunLost = s := by unfold State.pumpRunLost; split <;> simp [h.1]
  unfold State.pumprunChanged
  split
  · rfl
  · rw [State.endStuck_motions, hlost]
    exact congrArg State.motions (State.AtRest.foldl_eq (fun a => by simp [State.passedPriming, h.1]) _)

theorem State.Orderly.pumprunChanged (h : s.Orderly) : s.pumprunChanged.Orderly :=
  .intro h.1.pumprunChanged (h.2.keep (by simp) fun hr => hr.of_motions hr.pumprunChanged)

theorem State.Orderly.inputChanged (h : s.Orderly) (i : Input) : (s.inputChanged i).Orderly := by
  unfold State.inputChanged
  split
  · exact h.estopChanged
  · exact h.pumprunChanged
  · exact h

theorem State.Orderly.debounced (h : s.Orderly) (i : Input) : (s.debounced i).Orderly := by
  obtain ⟨x, hx⟩ := s.settle_inputs i
  unfold State.debounced
  rw [hx]
  exact State.Orderly.inputChanged (s := { s with inputs := x }) (h.of_motions rfl rfl) i

/-! ### Events of a part at rest -/

theorem State.Orderly.holders_none (h : s.Orderly) (hr : s.AtRest) (l : Link) :
    (s.slot a).holders.get l = none ∧ (s.slot a).watch.get l = none := by
  obtain ⟨-, hholders, -, hwatch⟩ := (h.1.2 a).of_idle (hr.1 a)
  exact ⟨LinkTimers.get_of_isEmpty hholders l, LinkTimers.get_of_isEmpty hwatch l⟩

/-- In a part at rest no slot, arbiter or context timer is due. -/
theorem State.Orderly.not_due (h : s.Orderly) (hr : s.AtRest) : (∀ l, s.holderDue a l = false)
    ∧ (∀ l, s.watchDue a l = false) ∧ s.runDownDue a = false ∧ s.primeDue a = false ∧ s.stepDue c = false
    ∧ s.runHoldDue c = false ∧ s.pauseDue c = false := by
  refine ⟨fun l => ?_, fun l => ?_, ?_, ?_, ?_, ?_, ?_⟩
  · rw [State.holderDue, (h.holders_none hr l).1]; rfl
  · rw [State.watchDue, (h.holders_none hr l).2]; rfl
  · simp [State.runDownDue, hr.1 a]
  · unfold State.primeDue; split <;> simp [hr.1 a]
  · simp [State.stepDue, hr.2 c]
  · simp [State.runHoldDue, hr.2 c]
  · simp [State.pauseDue, hr.2 c]

theorem State.SupplySound.lapseHolder (h : s.SupplySound) (a : Actuator) (l : Link) : (s.lapseHolder a l).SupplySound := by
  unfold State.lapseHolder; split
  · exact h.holderLeaves a l _
  · exact h.watcherLeaves a l

theorem State.SupplySound.reachPrimeLimit (h : s.SupplySound) (a : Actuator) : (s.reachPrimeLimit a).SupplySound := by
  unfold State.reachPrimeLimit; split
  · exact h.congr
  · exact h.failPriming a

theorem State.SupplySound.profileUpdate (h : s.SupplySound) : s.profileUpdate.SupplySound := by
  have hrestart : State.SupplySound { s with profile := { s.profile with update := some 0 } } := h.of_motions rfl
  obtain ⟨-, e⟩ | ⟨-, e⟩ | e := s.profileUpdate_cases <;> rw [e]
  · exact hrestart.updateRunning
  · exact hrestart.updateSettling
  · exact hrestart

theorem State.AtRest.profileUpdate (h : s.AtRest) : s.profileUpdate.AtRest := by
  obtain ⟨hs, -⟩ | ⟨hs, -⟩ | e := s.profileUpdate_cases
  · rw [h.1] at hs; cases hs
  · rw [h.1] at hs; cases hs
  · rw [e]; exact h.of_motions rfl

theorem State.SupplySound.stepTimeout (h : s.SupplySound) (c : Ctx) : (s.stepTimeout c).SupplySound := by
  unfold State.stepTimeout; split
  · exact State.SupplySound.endMotionOf (h.congr) c _ _
  · exact h.stepDone c _

theorem State.SupplySound.lapseRun (h : s.SupplySound) (c : Ctx) : (s.lapseRun c).SupplySound :=
  State.SupplySound.endMotionOf (h.congr) c _ _

/-! ### Events -/

/-- The events of the slots, the arbiter and the contexts. -/
def motionEvent : Instr → Bool
  | .holderLapse _ _ | .watchLapse _ _ | .runLimitExpiry _ | .holdTimerExpiry _ | .runDownEnd _ | .profileUpdate
  | .overloadExpiry | .primeLimit _ | .stepTimerExpiry _ | .sequenceLapse _ | .pauseTimerExpiry _ => true
  | _ => false

theorem State.eventOf_motion_supplySound {k : Instr} {b : Bool} (h : s.SupplySound) (hk : motionEvent k = true)
    (hc : s.eventOf k = some (b, u)) : u.SupplySound := by
  cases k <;> cases hk <;> cases hc
  case holderLapse a l => exact h.lapseHolder a l
  case watchLapse a l => exact h.watcherLeaves a l
  case runLimitExpiry a => exact (h.endMotion a _).of_motions (State.push_motions _)
  case holdTimerExpiry a => exact h.endMotion a _
  case runDownEnd a => exact h.complete a _
  case profileUpdate => exact h.profileUpdate
  case overloadExpiry => exact (h.endMotion .lift _).of_motions (State.push_motions _)
  case primeLimit a => exact h.reachPrimeLimit a
  case stepTimerExpiry c => exact h.stepTimeout c
  case sequenceLapse c => exact h.lapseRun c
  case pauseTimerExpiry c => exact h.congr

theorem State.eventOf_motion_atRest {k : Instr} {b : Bool} (h : s.Orderly) (hr : s.AtRest) (hk : motionEvent k = true)
    (hc : s.eventOf k = some (b, u)) (hcomes : b = true) : u.AtRest := by
  have hdue := fun a c => h.not_due (a := a) (c := c) hr
  have hend : ∀ a o, (s.endMotion a o).AtRest := fun a o => by rw [State.endMotion_of_idle (hr.1 a)]; exact hr
  cases k <;> cases hk <;> cases hc
  case holderLapse a l => simp [(hdue a 0).1 l, (hdue a 0).2.1 l] at hcomes
  case watchLapse a l => simp [(hdue a 0).2.1 l] at hcomes
  case runLimitExpiry a => exact (hend a _).of_motions (State.push_motions _)
  case holdTimerExpiry a => exact hend a _
  case runDownEnd a => simp [(hdue a 0).2.2.1] at hcomes
  case profileUpdate => exact hr.profileUpdate
  case overloadExpiry => exact (hend .lift _).of_motions (State.push_motions _)
  case primeLimit a => simp [(hdue a 0).2.2.2.1] at hcomes
  case stepTimerExpiry c => simp [(hdue .lift c).2.2.2.2.1] at hcomes
  case sequenceLapse c => simp [(hdue .lift c).2.2.2.2.2.1] at hcomes
  case pauseTimerExpiry c => simp [(hdue .lift c).2.2.2.2.2.2] at hcomes

theorem State.eventOf_motion_deviceState {k : Instr} {b : Bool} (hk : motionEvent k = true)
    (hc : s.eventOf k = some (b, u)) : u.device.state = s.device.state := by
  cases k <;> cases hk <;> cases hc <;> simp

theorem State.not_ready_of_dormant (h : s.device.state = .dormant) : s.device.state ≠ .ready := by rw [h]; decide

theorem State.Orderly.wake (h : s.Orderly) (hd : s.device.state = .dormant) (drives : Bool) : (s.wake drives).Orderly :=
  .intro (h.1.of_motions rfl) (.of_atRest ((h.2 (State.not_ready_of_dormant hd)).of_motions rfl))

/-- The end of STARTUP finds slots and contexts IDLE. -/
theorem State.Orderly.endStartup (h : s.Orderly) (hd : s.device.state = .startup) : s.endStartup.Orderly := by
  have hm : s.endStartup.motions = s.motions := by rw [State.endStartup_rest]; rfl
  exact .intro (h.1.of_motions hm) (.of_atRest ((h.2 (by rw [hd]; decide)).of_motions hm))

theorem State.Orderly.lapseOwner (h : s.Orderly) (hd : s.device.state = .config) : s.lapseOwner.Orderly :=
  .intro (h.1.of_motions rfl) (.of_atRest ((h.2 (by rw [hd]; decide)).of_motions rfl))

/-- The other events leave the motions as they are, reset the part, stop it, wake it or end its STARTUP. -/
theorem State.Orderly.eventOf_other {k : Instr} {b : Bool} (h : s.Orderly) (hk : motionEvent k = false)
    (hc : s.eventOf k = some (b, u)) (hcomes : b = true) : u.Orderly := by
  cases k <;> cases hk <;> cases hc
  case gapTimerExpiry | replyStart | quietTimerExpiry | lostExpiry | wakeDriveEnd | phaseTimerExpiry | trailTimerExpiry
      | leadReached | shortTrip | pwmPeriodStart => exact h.of_motions rfl rfl
  case dormancyTimerExpiry => exact h
  case replySent l =>
    unfold State.replySent; split
    · exact s.resetPart_orderly _
    · exact h.of_motions rfl rfl
  case replyDropped l =>
    unfold State.replyDropped; split
    · exact s.resetPart_orderly _
    · exact h.of_motions rfl rfl
  case wakeStartBit l => exact h.wake (by simp [State.startBitWakes] at hcomes; exact hcomes.1) true
  case wakeIgn => exact h.wake (by simp [State.ignDue] at hcomes; exact hcomes.1) true
  case wakeLine => exact h.wake (by simpa using hcomes) false
  case stuckWatchExpiry => exact h.of_motions (by simp) State.stuckExpired_motions
  case debounceSettle i => exact h.debounced i
  case speedEdge => rw [State.takeSpeed_rest]; exact h.of_motions rfl rfl
  case captureRisingEdge m => rw [State.risingEdge_rest]; exact h.of_motions rfl rfl
  case captureFallingEdge m => rw [State.fallingEdge_rest]; exact h.of_motions rfl rfl
  case startupEnd => exact h.endStartup (by simp [State.startupDue] at hcomes; exact hcomes.1)
  case batterySample mv =>
    obtain ⟨v, -, e⟩ | ⟨v, xs, e⟩ := s.takeSample_cases mv.toNat <;> rw [e]
    · exact v.resetPart_orderly _
    · exact h.of_motions rfl rfl
  case clockComparison count =>
    obtain e | e := s.compareClock_cases count <;> rw [e]
    · exact s.resetPart_orderly _
    · exact h.of_motions rfl rfl
  case ownerLapse => exact h.lapseOwner (by simp [State.ownerDue] at hcomes; exact hcomes.1)
  case lampProveTest n x => rw [State.proveLamp_rest]; exact h.of_motions rfl rfl
  case openLoadTest k x => rw [State.testOpenLoad_rest]; exact h.of_motions rfl rfl

/-- An event that comes keeps slots and arbiter in order. -/
theorem State.Orderly.eventOf {k : Instr} {b : Bool} (h : s.Orderly) (hc : s.eventOf k = some (b, u)) (hcomes : b = true) :
    u.Orderly := by
  cases hk : motionEvent k with
  | true =>
    exact .intro (State.eventOf_motion_supplySound h.1 hk hc)
      (h.2.keep (State.eventOf_motion_deviceState hk hc) fun hr => State.eventOf_motion_atRest h hr hk hc hcomes)
  | false => exact h.eventOf_other hk hc hcomes

/-! ### Requests -/

theorem State.SupplySound.resumeRun (h : s.SupplySound) (c : Ctx) : (s.resumeRun c).SupplySound :=
  State.SupplySound.tryStep (h.congr) c

theorem State.SupplySound.cancelRun (h : s.SupplySound) (c : Ctx) : (s.cancelRun c).SupplySound :=
  State.SupplySound.endMotionOf (h.congr) c _ _

theorem State.Orderly.writeRecord (h : s.Orderly) (r : Record) : (s.writeRecord r).Orderly := by
  cases r
  case inputSetup i r =>
    unfold State.writeRecord State.writeInput
    dsimp only
    split
    · refine State.Orderly.inputChanged ?_ _
      exact h.of_motions rfl rfl
    · exact h.of_motions rfl rfl
  all_goals exact h.of_motions rfl rfl

theorem State.RequestEffect.orderly {l : Link} {k : Instr} {e : State} (h : u.RequestEffect l k e) (hu : u.Orderly) :
    e.Orderly := by
  have hready : ∀ v : State, u.device.state = .ready → v.device.state = u.device.state → v.SupplySound → v.Orderly :=
    fun v hr hd hv => .intro hv (.of_ready (hd.trans hr))
  cases h
  case hold a k hr hidle => exact hready _ hr rfl (hu.1.enterWaiting hidle k _ none _)
  case conflict a hr _ => exact hready _ hr (by simp) (hu.1.takeConflict a l)
  case release a hr _ => exact hready _ hr (by simp) (hu.1.holderLeaves a l _)
  case unwatch a hr _ => exact hready _ hr (by simp) (hu.1.watcherLeaves a l)
  case move a k target hr hidle => exact hready _ hr rfl (hu.1.enterWaiting hidle k _ none _)
  case cancel a hr => exact hready _ hr (by simp) (hu.1.endMotion a _)
  case seqStart c n first hr => exact hready _ hr rfl hu.1.congr
  case resumeRun c hr => exact hready _ hr (by simp) (hu.1.resumeRun c)
  case cancelRun c hr => exact hready _ hr (by simp) (hu.1.cancelRun c)
  case setLamp | clearLamp | output => exact hu.of_motions rfl rfl
  case stopAll => exact .enterStopped hu.1
  case resume => exact .intro (hu.1.setDeviceState _) (.of_ready rfl)
  case ack k v => exact hu.of_motions (by simp) (State.acknowledge_motions k v)
  case ackAll => rw [State.acknowledgeAll_rest]; exact hu.of_motions rfl rfl
  case configEnter hfrom =>
    have hrest : u.AtRest := by
      obtain hd | ⟨-, hslots, hcontexts⟩ := hfrom
      · exact hu.2 (by rw [hd]; decide)
      · exact ⟨State.slotsIdle_iff.1 hslots, State.contextsIdle_iff.1 hcontexts⟩
    exact .intro (hu.1.of_motions rfl) (.of_atRest (hrest.of_motions rfl))
  case configWrite r _ _ => exact hu.writeRecord r
  case configCommit hd => exact .intro (hu.1.of_motions rfl) (.of_atRest ((hu.2 (by rw [hd]; decide)).of_motions rfl))

theorem State.Answered.orderly {l : Link} {k : Instr} (h : u.Answered l k t) (hu : u.Orderly) : t.Orderly := by
  cases h
  case unchanged => exact hu
  case causesRead => exact hu.of_motions rfl rfl
  case joined a hr hk ho => exact .intro (hu.1.joinHolders hk ho l) (.of_ready hr)
  case watched a hr hs => exact .intro (hu.1.watchLink hs l) (.of_ready hr)
  case refreshed d =>
    refine .intro hu.1.congr (hu.2.keep rfl fun hr => ⟨hr.1, fun c => ?_⟩)
    rw [State.context_setContext]
    split
    · next e => subst e; exact hr.2 d
    · exact hr.2 c
  case followed e he => exact (he.orderly hu).finish

/-! ### Every step -/

theorem State.Leads.orderly {k : Instr} (h : s.Leads k t) (hs : s.Orderly) : t.Orderly := by
  cases h
  case stays => exact hs
  case receives => exact hs.of_motions rfl rfl
  case answered r u res data b _ _ hu =>
    have hframe : (s.withFrame r.link).Orderly := hs.of_motions (by simp) (by simp [State.motions])
    exact (hu.orderly hframe).of_motions rfl rfl
  case wakes drives hd => exact (hs.wake hd drives).finish
  case restarts => exact s.resetPart_orderly _
  case happens u hc => exact (hs.eventOf hc rfl).finishEvent
  case powerOn =>
    unfold State.powerOn; split
    · exact State.resetBlocks_orderly _
    · exact s.resetPart_orderly _
  case pinReset =>
    unfold State.pinReset; split
    · exact hs
    · exact (s.resetBlocks_orderly .pin).of_motions (s := s.resetBlocks .pin) rfl rfl
  case release =>
    unfold State.resetbRelease; split
    · exact hs.of_motions rfl rfl
    · exact hs
  case pin p d => rw [State.changePin_rest]; exact hs.of_motions rfl rfl

/-! ### The tick -/

/-- A tick moves a slot's timers alone. -/
theorem Slot.tick_sound {r : Slot} (h : r.Sound) (window limit : Nat) : (r.tick window limit).Sound := by
  have hnone : ∀ v : Option Nat, (Machine.runTimer window v).isNone = v.isNone := fun v => by cases v <;> rfl
  exact h.congr (hholders := LinkTimers.isEmpty_map _ _ hnone) (hwatch := LinkTimers.isEmpty_map _ _ hnone)

theorem State.slot_advance (a : Actuator) :
    s.advance.slot a = (s.slot a).tick s.refreshWindow (s.limitInHand (actuatorOfIx a.ix)) := Table.get_ofFn _ _

theorem State.context_advance (c : Ctx) : s.advance.context c = (s.context c).tick s.refreshWindow (s.stepLimit c) :=
  Table.get_ofFn _ _

theorem State.Orderly.advance (h : s.Orderly) : s.advance.Orderly := by
  have hstate : ∀ a, (s.advance.slot a).state = (s.slot a).state := fun a => by rw [State.slot_advance]; rfl
  have hstroke : ∀ a, (s.advance.slot a).stroke = (s.slot a).stroke := fun a => by rw [State.slot_advance]; rfl
  refine .intro ⟨State.supplyAgrees_congr (s := s) rfl rfl rfl (fun b => by rw [hstate]) (fun b => by rw [hstate])
    (fun b _ => hstroke b) h.1.1, fun a => ?_⟩ (h.2.keep rfl fun hr => ⟨fun a => ?_, fun c => ?_⟩)
  · rw [State.slot_advance]; exact Slot.tick_sound (h.1.2 a) _ _
  · rw [hstate]; exact hr.1 a
  · rw [State.context_advance]; exact hr.2 c

theorem State.Orderly.tick (h : s.Orderly) : s.tick.Orderly := by
  unfold State.tick
  split
  · exact h
  · exact h.advance.of_motions (s := s.advance) rfl rfl

/-- Settles O57: the three invariants are `Orderly`, which every command and the tick keep. -/
theorem stepKeepsTheSupply : Obligations.StepKeepsTheSupply := by
  unfold Obligations.StepKeepsTheSupply
  intro s t hagrees hsound hrests hstep
  have hs : s.Orderly := State.orderly_iff.2 ⟨hagrees, hsound, hrests⟩
  refine State.orderly_iff.1 ?_
  obtain ⟨-, rfl⟩ | ⟨c, rest, -, hleads⟩ := step_leads hstep
  · exact hs.tick
  · exact hleads.orderly (hs.of_motions rfl rfl)

end Sys2Proof.Machine

/-! O22: what a completed end leaves (R21, R28, R32, R104, R105). -/

namespace Sys2Proof.Machine

variable {s t u : State} {a : Actuator} {c : Ctx}

theorem State.completeRecord_contexts (a : Actuator) (o : Ending) : (s.completeRecord a o).contexts = s.contexts := by
  unfold State.completeRecord State.releaseGrant State.leaveCallList State.stopProfile
  dsimp only
  repeat' split
  all_goals rfl

theorem State.completeRecord_profile (a : Actuator) (o : Ending) :
    (s.completeRecord a o).profile = if a = .lift then ⟨0, none, none⟩ else s.profile := by
  have hrelease : ∀ v : State, (v.releaseGrant a).profile = v.profile := fun v => by
    unfold State.releaseGrant; split <;> rfl
  have hleave : ∀ v : State, (v.leaveCallList a).profile = v.profile := fun v => by
    unfold State.leaveCallList; split <;> rfl
  unfold State.completeRecord
  simp only [State.pushAll_profile, hrelease, hleave, State.setPrime_profile]
  unfold State.stopProfile
  split <;> rfl

theorem State.completeRecord_prime (a : Actuator) (o : Ending) : (s.completeRecord a o).prime a = .stopped := by
  have hrelease : ∀ v : State, (v.releaseGrant a).prime a = v.prime a := fun v => by
    unfold State.releaseGrant; split <;> rfl
  have hleave : ∀ v : State, (v.leaveCallList a).prime a = v.prime a := fun v => by
    unfold State.leaveCallList; split <;> rfl
  unfold State.completeRecord
  simp only [State.prime_pushAll, hrelease, hleave, State.prime_setPrime, if_pos]

/-- The arbiter and the lowering profile after a completed end are those of its record. -/
theorem State.complete_arbiter (a : Actuator) (o : Ending) :
    (s.complete a o).arbiter = (s.completeRecord a o).arbiter ∧ (s.complete a o).profile = (s.completeRecord a o).profile := by
  rw [State.complete_rest]; exact ⟨rfl, rfl⟩

/-- A slot gives up a call or a grant, never both, so one round follows (R28). -/
theorem State.SupplyAgrees.agenda_completeRecord (h : s.SupplyAgrees) (o : Ending) :
    (s.completeRecord a o).agenda = s.agenda
      ++ (if a ∈ s.arbiter.callList ∨ s.grant a.circuit = some a then [.round] else [])
      ++ (if (s.slot a).endsBlocked o then [] else [.slotFree a]) := by
  have hexclusive : a ∈ s.arbiter.callList → s.grant a.circuit ≠ some a := by
    rw [h.2.1 a, Ne, h.2.2.1 a]
    intro hw; rw [hw]; decide
  rw [State.agenda_completeRecord]
  by_cases hcall : a ∈ s.arbiter.callList
  · simp [hcall, hexclusive hcall]
  · simp [hcall]

theorem Slot.reportCtx_eq_some_iff (r : Slot) : r.reportCtx = some c ↔
    r.owner = some (.ctx c) ∨ ((∀ d, r.owner ≠ some (.ctx d)) ∧ r.reportTo = some c) := by
  unfold Slot.reportCtx
  split
  · next d h => simp [h]
  · next h =>
    have hno : ∀ d, r.owner ≠ some (.ctx d) := fun d hd => h d hd
    simp [hno]

/-- The context that is to be told judges the report after the record, and without one the record is all. -/
theorem State.complete_of_report (o : Ending) :
    (∀ c, (s.slot a).reportCtx = some c →
        s.complete a o = (s.completeRecord a o).judgeReport c a ((s.slot a).finalOutcome o))
      ∧ ((s.slot a).reportCtx = none → s.complete a o = s.completeRecord a o) := by
  refine ⟨fun c h => ?_, fun h => ?_⟩ <;> unfold State.complete <;> simp only [h]

theorem Slot.endsBlocked_iff (r : Slot) (o : Ending) : r.endsBlocked o = true ↔
    o ≠ .stopped ∧ r.finalClass o = .blocking ∧ r.watchers.isEmpty = false := by
  simp [Slot.endsBlocked, and_assoc]

/-- Settles O22: the record, the timers and the supply of the slot are `completeRecord`'s, and the report is judged after it. -/
theorem endsComplete : Obligations.EndsComplete := by
  unfold Obligations.EndsComplete
  intro s a o h _ r t cls outcome watchers blocked told
  have hslot : t.slot a = r.ended o := by
    refine (State.slot_complete a a o).trans (if_pos rfl)
  have hblocked : blocked ↔ r.endsBlocked o = true := (r.endsBlocked_iff o).symm
  have hcallList : t.arbiter.callList = s.arbiter.callList.erase a := by
    rw [(State.complete_arbiter a o).1, State.completeRecord_callList]
  have hgrant : ∀ c, t.grant c = if s.grant c = some a ∧ a.circuit = c then none else s.grant c := fun c => by
    rw [State.grant, (State.complete_arbiter a o).1]; exact State.completeRecord_grant a o c
  have hpump := State.completeRecord_pumpOwner (s := s) a o
  rw [← (State.complete_arbiter a o).1] at hpump
  have hprofile : t.profile = if a = .lift then ⟨0, none, none⟩ else s.profile :=
    (State.complete_arbiter a o).2.trans (State.completeRecord_profile a o)
  rw [hslot]
  refine ⟨fun hb => ?_, fun hb => ?_, rfl, rfl, rfl, rfl, rfl, rfl, rfl, rfl, rfl, rfl, rfl, fun ha => ?_, fun ha => ?_,
    ?_, fun c hc => ?_, ?_, ?_, fun b hb => ?_,
    s.completeRecord a o, if a ∈ s.arbiter.callList ∨ s.grant a.circuit = some a then [.round] else [],
    fun c hc => ?_, fun hc => ?_, State.completeRecord_contexts a o, fun hb => ?_, fun hb => ?_, rfl⟩
  · simp [Slot.ended, hblocked.1 hb]; rfl
  · have hb : r.endsBlocked o = false := Bool.eq_false_iff.2 fun hr => hb (hblocked.2 hr)
    simp [Slot.ended, hb]
  · rw [hprofile, if_pos ha]
  · rw [hprofile, if_neg ha]
  · rw [hcallList]; exact h.1.not_mem_erase
  · rw [hgrant] at hc
    split at hc
    · cases hc
    · next hno => exact hno ⟨hc, h.2.2.2.1 c a hc⟩
  · rw [hpump]
    split
    · nofun
    · next hno => exact fun hp => hno ⟨(h.2.2.1 a).2 ((h.2.2.2.2 a).1 hp).1, hp⟩
  · rw [State.prime, (State.complete_arbiter a o).1]; exact State.completeRecord_prime a o
  · exact (State.slot_complete a b o).trans (if_neg (Ne.symm hb))
  · exact (State.complete_of_report o).1 c ((Slot.reportCtx_eq_some_iff _).2 hc)
  · refine (State.complete_of_report o).2 (Option.eq_none_iff_forall_ne_some.2 fun c hr => ?_)
    exact hc c ((Slot.reportCtx_eq_some_iff _).1 hr)
  · rw [h.agenda_completeRecord, if_pos (hblocked.1 hb), List.append_nil]
  · rw [h.agenda_completeRecord, if_neg (fun hr => hb (hblocked.2 hr))]

end Sys2Proof.Machine

/-! O6: the frames of requests and replies, and their CRC (R170, R171, R183). -/

namespace Sys2Proof.Machine

/-! ### Receiving -/

theorem Rx.frames_append (r : Rx) (cs ds : List Byte) : r.frames (cs ++ ds) = r.frames cs ++ (r.run cs).frames ds := by
  induction cs generalizing r with
  | nil => rfl
  | cons c cs ih => simp only [List.cons_append, Rx.frames, ih, List.append_assoc]; rfl

theorem Rx.run_append (r : Rx) (cs ds : List Byte) : r.run (cs ++ ds) = (r.run cs).run ds := List.foldl_append

/-- The characters of a body are collected to the last, and complete no frame. -/
theorem Rx.run_body (len : Nat) (cs : List Byte) (hcs : cs ≠ []) (got : List Byte) (hlen : got.length + cs.length = len) :
    Rx.run (.body len got) cs = .check len (got ++ cs) ∧ Rx.frames (.body len got) cs = [] := by
  induction cs generalizing got with
  | nil => exact absurd rfl hcs
  | cons c cs ih =>
    rw [List.length_cons] at hlen
    have hframes : ∀ r', (Rx.body len got).next c = r' → Rx.frames (.body len got) (c :: cs) = r'.frames cs := by
      rintro r' rfl; rfl
    have hrun : ∀ r', (Rx.body len got).next c = r' → Rx.run (.body len got) (c :: cs) = r'.run cs := by
      rintro r' rfl; rfl
    cases cs with
    | nil =>
      have hnext : (Rx.body len got).next c = .check len (got ++ [c]) := by
        rw [List.length_nil] at hlen
        exact if_neg (by omega)
      rw [hframes _ hnext, hrun _ hnext]
      exact ⟨rfl, rfl⟩
    | cons d ds =>
      have hnext : (Rx.body len got).next c = .body len (got ++ [c]) := by
        rw [List.length_cons] at hlen
        exact if_pos (by omega)
      rw [hframes _ hnext, hrun _ hnext]
      have := ih (List.cons_ne_nil d ds) (got ++ [c]) (by simp at hlen ⊢; omega)
      simpa using this

theorem byte_toNat {n : Nat} (h : n < 256) : (byte n).toNat = n := by
  simp [byte, BitVec.toNat_ofNat, Nat.mod_eq_of_lt h]

/-- A frame's characters on a hunting link are one frame, its body, and the link hunts again. -/
theorem Rx.frames_of_frame (body : List Byte) (h2 : 2 ≤ body.length) (h60 : body.length ≤ 60) :
    Rx.frames .hunt (0xA5 :: byte body.length :: body ++ [crc8 (byte body.length :: body)]) = [body]
      ∧ Rx.run .hunt (0xA5 :: byte body.length :: body ++ [crc8 (byte body.length :: body)]) = .hunt := by
  have hlen : (byte body.length).toNat = body.length := byte_toNat (by omega)
  have hstart : Rx.run .hunt [0xA5, byte body.length] = .body body.length []
      ∧ Rx.frames .hunt [0xA5, byte body.length] = [] := by
    simp [Rx.run, Rx.frames, Rx.next, Rx.completes, hlen, h2, h60]
  obtain ⟨hrun, hframes⟩ := Rx.run_body body.length body (by rintro rfl; simp at h2) [] (by simp)
  have hsplit : 0xA5 :: byte body.length :: body ++ [crc8 (byte body.length :: body)]
      = [0xA5, byte body.length] ++ (body ++ [crc8 (byte body.length :: body)]) := rfl
  rw [hsplit, Rx.frames_append, Rx.run_append, hstart.1, hstart.2, Rx.frames_append, Rx.run_append, hrun, hframes]
  simp [Rx.frames, Rx.run, Rx.completes, Rx.next]

/-! ### CRC -/

/-- One shift of the remainder (R171). -/
theorem crcShifts_succ (n : Nat) (r : Byte) :
    crcShifts (n + 1) r = crcShifts n (if 128 ≤ r.toNat then (r <<< 1) ^^^ 0x07 else r <<< 1) := by
  rw [crcShifts, BitVec.msb_eq_decide]; simp

theorem crc8_append (bs : List Byte) (b : Byte) : crc8 (bs ++ [b]) = crcShifts 8 (crc8 bs ^^^ b) := by
  unfold crc8; rw [List.foldl_append]; rfl

theorem codeByte_of_lt {r : Reply} (h : r.code.toNat < 0x80) : r.codeByte = byte (r.code.toNat + 0x80) := by
  rw [Reply.codeByte, if_pos h]
  refine BitVec.eq_of_toNat_eq ?_
  rw [byte_toNat (by omega), BitVec.toNat_add]
  exact Nat.mod_eq_of_lt (by simp; omega)

/-- Settles O6: the receive state follows a frame to its CRC, and a reply's layout and the CRC's steps are read off. -/
theorem framesAreFound : Obligations.FramesAreFound := by
  unfold Obligations.FramesAreFound
  refine ⟨fun code tag params h => ?_, fun r h => ?_, ⟨rfl, fun bs b => ?_⟩, by decide, by decide, by decide⟩
  · exact Rx.frames_of_frame (code :: tag :: params) (by simp) (by simp; omega)
  · have hbody : r.body = byte (r.code.toNat + 0x80) :: r.tag :: r.result.code :: r.data := by
      rw [Reply.body, codeByte_of_lt h]
    have hlen : r.body.length = 3 + r.data.length := by rw [hbody]; simp; omega
    rw [Reply.frame, hlen, hbody]
  · rw [crc8_append]
    simp only [crcShifts_succ]
    rfl

end Sys2Proof.Machine

/-! O4: what the blocks derive continuously (R46 to R60, R117 to R137). -/

namespace Sys2Proof.Machine

variable {s t : State} {a : Actuator} {k : Stroke}

/-! ### Coverage and readiness (R57 to R59) -/

theorem mem_allStrokes (a : Actuator) (k : Stroke) : (a, k) ∈ allStrokes := by cases a <;> cases k <;> decide

theorem sensorCovers_iff {m : Sensor} : sensorCovers m a = true ↔
    (a = .lift ∧ (m = .height ∨ m = .pressure)) ∨ (a = .tilt ∧ m = .tilt) := by
  cases m <;> simp [sensorCovers]

/-- An entry on a channel covers the strokes of the function that the channel's map entry names (R58). -/
theorem chanCovers_iff {t : Tables} {c : Chan} :
    (match t.outputMap.get c with
      | some f => (strokeFuncs a k).contains f
      | none => false) = true ↔ ∃ f, t.outputMap.get c = some f ∧ f ∈ strokeFuncs a k := by
  cases t.outputMap.get c <;> simp

theorem Tables.covers_iff {t : Tables} {e : FaultEntry} : t.covers e a k = true ↔ t.Covered e a k := by
  unfold Tables.covers Tables.Covered
  cases e.kind
  case sensorRange | sensorLost => cases e.subject <;> simp [sensorCovers_iff]
  case driverOpen | driverShort =>
    cases e.subject with
    | chan c =>
      refine chanCovers_iff.trans ⟨fun ⟨f, hmap, hmem⟩ => ⟨c, f, rfl, hmap, hmem⟩, ?_⟩
      rintro ⟨d, f, hd, hmap, hmem⟩
      cases hd
      exact ⟨f, hmap, hmem⟩
    | _ => simp
  case hatchSwitch => cases e.subject <;> simp [eq_comm (a := a)]
  all_goals cases e.subject <;> simp

theorem Tables.blocking_iff {t : Tables} {e : FaultEntry} : t.blocking e = true ↔ ∃ a k, t.Covered e a k := by
  simp only [Tables.blocking, List.any_eq_true, Tables.covers_iff, Prod.exists]
  exact exists_congr fun a => exists_congr fun k => and_iff_right (mem_allStrokes a k)

theorem State.someBlocking_iff : s.someBlocking = true ↔ ∃ e ∈ s.faults.entries, ∃ a k, s.tables.Covered e a k := by
  simp [State.someBlocking, Tables.blocking_iff]

theorem State.coveredBy_iff {kinds : List FaultKind} :
    s.coveredBy kinds a k = true ↔ ∃ e ∈ s.faults.entries, e.kind ∈ kinds ∧ s.tables.Covered e a k := by
  simp [State.coveredBy, Tables.covers_iff]

theorem State.lampFailedFor_iff : s.lampFailedFor a = true ↔ s.LampFailed a := by
  simp [State.lampFailedFor, State.LampFailed, and_assoc]

theorem State.strokeTripped_iff : s.strokeTripped a k = true ↔
    ∃ f ∈ strokeFuncs a k, ∃ c, s.Carries c f ∧ (s.chan c).drive = .tripped := by
  simp only [State.strokeTripped, List.any_eq_true]
  refine exists_congr fun f => and_congr_right fun _ => ?_
  cases hc : s.carrier f with
  | none => simp [State.carrier_eq_none.1 hc]
  | some c =>
    have hcarries := State.carrier_eq_some.1 hc
    simp only [decide_eq_true_eq]
    refine ⟨fun h => ⟨c, hcarries, h⟩, ?_⟩
    rintro ⟨d, hd, h⟩
    obtain rfl : c = d := Option.some.inj (hc.symm.trans (State.carrier_eq_some.2 hd))
    exact h

theorem State.strokeCarried_iff : s.strokeCarried a k = true ↔ ∀ f ∈ strokeFuncs a k, ∃ c, s.Carries c f := by
  simp only [State.strokeCarried, State.carried, List.all_eq_true, Option.isSome_iff_exists, State.carrier_eq_some]

/-- The cause that is named stands (R57, R60). -/
theorem State.notReadyCause_stands {cause : Cause} (h : s.notReadyCause a k = some cause) : s.CauseStands a k cause := by
  unfold State.notReadyCause at h
  split at h
  · next hc => cases h; exact State.strokeTripped_iff.1 hc
  split at h
  · next hc => cases h; simpa [State.CauseStands] using State.coveredBy_iff.1 hc
  split at h
  · next hc =>
    cases h
    rw [Bool.or_eq_true, State.lampFailedFor_iff, State.coveredBy_iff] at hc
    simpa [State.CauseStands] using hc
  split at h
  · next hc => cases h; simpa [State.CauseStands] using State.coveredBy_iff.1 hc
  split at h
  · next hc => cases h; simpa [State.CauseStands] using State.coveredBy_iff.1 hc
  split at h
  · next hc => cases h; simpa [State.CauseStands] using State.coveredBy_iff.1 hc
  split at h
  · next hc => cases h; exact hc
  split at h
  · next hc =>
    cases h
    rw [Bool.not_eq_true', Bool.eq_false_iff, Ne, State.strokeCarried_iff] at hc
    simpa [State.CauseStands] using hc
  · cases h

theorem State.notReadyCause_eq_none_iff : s.notReadyCause a k = none ↔
    s.strokeTripped a k = false ∧ s.coveredBy [.driverOpen, .driverShort] a k = false ∧ s.lampFailedFor a = false
      ∧ s.coveredBy [.lampOpen] a k = false ∧ s.coveredBy [.sensorRange, .sensorLost] a k = false
      ∧ s.coveredBy [.hatchSwitch] a k = false ∧ s.coveredBy [.pumpStuck] a k = false ∧ s.faults.full = false
      ∧ s.strokeCarried a k = true := by
  unfold State.notReadyCause
  constructor
  · intro h
    repeat (split at h; · cases h)
    simp_all
  · rintro ⟨h1, h2, h3, h4, h5, h6, h7, h8, h9⟩
    simp [h1, h2, h3, h4, h5, h6, h7, h8, h9]

/-- An entry that covers a stroke is of one of the kinds that R58 lists. -/
theorem Tables.Covered.kind {t : Tables} {e : FaultEntry} (h : t.Covered e a k) :
    e.kind ∈ [FaultKind.driverOpen, .driverShort] ∨ e.kind ∈ [FaultKind.lampOpen]
      ∨ e.kind ∈ [FaultKind.sensorRange, .sensorLost] ∨ e.kind ∈ [FaultKind.hatchSwitch] ∨ e.kind ∈ [FaultKind.pumpStuck] := by
  unfold Tables.Covered at h
  cases hk : e.kind <;> rw [hk] at h <;> first | exact h.elim | simp

/-- A stroke is ready when the four parts of R57 hold. -/
theorem State.notReadyCause_isNone_iff : (s.notReadyCause a k).isNone = true ↔
    (∀ f ∈ strokeFuncs a k, ∃ c, s.Carries c f ∧ (s.chan c).drive ≠ .tripped)
      ∧ (∀ e ∈ s.faults.entries, ¬s.tables.Covered e a k) ∧ ¬s.LampFailed a ∧ s.faults.full = false := by
  rw [Option.isNone_iff_eq_none, State.notReadyCause_eq_none_iff]
  simp only [Bool.eq_false_iff, Ne, State.strokeTripped_iff, State.coveredBy_iff, State.lampFailedFor_iff,
    State.strokeCarried_iff, not_exists, not_and]
  constructor
  · rintro ⟨htripped, hdriver, hlamp, hlampEntry, hsensor, hhatch, hpump, hfull, hcarried⟩
    refine ⟨fun f hf => ?_, fun e he hcov => ?_, hlamp, hfull⟩
    · obtain ⟨c, hc⟩ := hcarried f hf
      exact ⟨c, hc, fun h => htripped f hf c hc h⟩
    · obtain h | h | h | h | h := hcov.kind
      · exact hdriver e he h hcov
      · exact hlampEntry e he h hcov
      · exact hsensor e he h hcov
      · exact hhatch e he h hcov
      · exact hpump e he h hcov
  · rintro ⟨hcarried, hentries, hlamp, hfull⟩
    refine ⟨fun f hf c hc h => ?_, fun e he _ => hentries e he, hlamp, fun e he _ => hentries e he, fun e he _ => hentries e he,
      fun e he _ => hentries e he, fun e he _ => hentries e he, hfull, fun f hf => ?_⟩
    · obtain ⟨d, hd, hno⟩ := hcarried f hf
      obtain rfl : c = d := Option.some.inj ((State.carrier_eq_some.2 hc).symm.trans (State.carrier_eq_some.2 hd))
      exact hno h
    · obtain ⟨c, hc, -⟩ := hcarried f hf
      exact ⟨c, hc⟩

/-- Readiness reads the map, the lamps' configuration and proving, the fault table and which channels are TRIPPED. -/
theorem State.notReadyCause_congr (ht : t.tables = s.tables) (hf : t.faults = s.faults)
    (hl : ∀ n, (t.lamp n).proven = (s.lamp n).proven)
    (hc : ∀ c, (t.chan c).drive = .tripped ↔ (s.chan c).drive = .tripped) : t.notReadyCause a k = s.notReadyCause a k := by
  have hcarrier : ∀ f, t.carrier f = s.carrier f := fun f => by rw [State.carrier, ht, State.carrier]
  have htripped : t.strokeTripped a k = s.strokeTripped a k := by
    simp only [State.strokeTripped, hcarrier, hc]
  have hcovered : ∀ kinds, t.coveredBy kinds a k = s.coveredBy kinds a k := fun kinds => by
    rw [State.coveredBy, hf, ht, State.coveredBy]
  have hfailed : t.lampFailedFor a = s.lampFailedFor a := by
    simp only [State.lampFailedFor, State.lampCfg, ht, hl]
  have hcarried : t.strokeCarried a k = s.strokeCarried a k := by
    have hfunc : t.carried = s.carried := funext fun f => by rw [State.carried, hcarrier, State.carried]
    rw [State.strokeCarried, hfunc, State.strokeCarried]
  simp only [State.notReadyCause, htripped, hcovered, hfailed, hcarried, hf]

theorem readyTable_get (p : Actuator × Stroke → Bool) (h : (allStrokes.map p).length = 8) (a : Actuator) (k : Stroke) :
    (⟨allStrokes.map p, h⟩ : Table Bool 8).get (strokeIx a k) = p (a, k) := by
  cases a <;> cases k <;> rfl

theorem State.readyNow_get (hd : s.device.state ≠ .dormant) (a : Actuator) (k : Stroke) :
    s.readyNow.get (strokeIx a k) = (s.notReadyCause a k).isNone := by
  rw [State.readyNow, if_neg hd]
  exact readyTable_get (fun p => (s.notReadyCause p.1 p.2).isNone) (by rfl) a k

/-! ### Hatches and conditions (R46, R49, R51, R52) -/

theorem State.hatchNow_eq (h : Hatch) : s.hatchNow h =
    if s.awake = false ∨ s.asserted? h.shutSwitch = none ∨ s.asserted? h.openSwitch = none then .between
    else if s.asserted h.shutSwitch = true ∧ s.asserted h.openSwitch = true then .unknown
    else if s.asserted h.shutSwitch = true then .shut
    else if s.asserted h.openSwitch = true then .opened
    else .between := by
  unfold State.hatchNow State.asserted
  cases s.awake
  · simp
  · obtain hs | _ | _ := s.asserted? h.shutSwitch <;> obtain ho | _ | _ := s.asserted? h.openSwitch <;> simp [hatchPosOf]

theorem CondSet.has_of (f : Cond → Bool) (c : Cond) : (CondSet.of f).has c = f c := by
  unfold CondSet.of CondSet.has
  rw [Table.get_ofFn]
  cases c <;> rfl

theorem State.condsNow_has (c : Cond) : s.condsNow.has c = (s.awake && s.condSource c) := CondSet.has_of _ c

/-! ### One lamp (R117 to R125) -/

theorem LampRec.begins_startPattern (r : LampRec) (p : Pattern) (on : Bool) : (r.startPattern p on).Begins p on := by
  unfold LampRec.startPattern LampRec.Begins
  split
  · exact ⟨rfl, rfl⟩
  split
  · exact ⟨rfl, rfl⟩
  · exact ⟨rfl, rfl⟩

/-- A pattern's start writes the phase and its timer alone. -/
theorem LampRec.startPattern_rest (r : LampRec) (p : Pattern) (on : Bool) : r.startPattern p on = { r with
    phaseOn := (r.startPattern p on).phaseOn, phaseTimer := (r.startPattern p on).phaseTimer } := by
  unfold LampRec.startPattern; repeat' split
  all_goals rfl

theorem LampRec.proveAfter_rest (r : LampRec) (b : Bool) : r.proveAfter b = { r with prove := (r.proveAfter b).prove } := by
  unfold LampRec.proveAfter; repeat' split
  all_goals rfl

theorem LampRec.proveAfter_prove (r : LampRec) (b : Bool) :
    (r.proveAfter b).prove = if r.lit = false then none else if b = true then r.prove else some 0 := by
  unfold LampRec.proveAfter
  cases r.lit <;> cases b <;> rfl

theorem LampRec.Begins.congr {r r' : LampRec} {p : Pattern} {on : Bool} (h : r.Begins p on) (ho : r'.phaseOn = r.phaseOn)
    (ht : r'.phaseTimer = r.phaseTimer) : r'.Begins p on := by
  unfold LampRec.Begins at *; rw [ho, ht]; exact h

theorem LampRec.lit_eq_false_iff (r : LampRec) : r.lit = false ↔ r.cls = .none ∨ r.phaseOn = false := by
  simp [LampRec.lit, imp_iff_not_or]

/-- The class in force, and what a change of it starts (R118, R119, R125). -/
theorem LampRec.deriveClass_spec (r : LampRec) (cfg : LampCfg) :
    let q := r.deriveClass cfg
    q = { r with cls := r.classNow, phaseOn := q.phaseOn, phaseTimer := q.phaseTimer, prove := q.prove }
      ∧ (r.classNow = r.cls → q = r)
      ∧ (r.classNow ≠ r.cls →
          (r.classNow = .none → q.phaseOn = false ∧ q.phaseTimer = none)
            ∧ (r.classNow ≠ .none → q.Begins (r.patternOf cfg r.classNow) (r.startsOn r.classNow))
            ∧ q.prove = if q.lit = false then none else if r.lit = true then r.prove else some 0) := by
  intro q
  have hq : q = r.deriveClass cfg := rfl
  unfold LampRec.deriveClass at hq
  dsimp only at hq
  by_cases hsame : r.classNow = r.cls
  · rw [if_pos hsame] at hq
    rw [hq]
    refine ⟨?_, fun _ => rfl, fun h => absurd hsame h⟩
    rw [hsame]
  · rw [if_neg hsame] at hq
    by_cases hnone : r.classNow = .none
    · rw [if_pos hnone] at hq
      have hrest := LampRec.proveAfter_rest { r with cls := .none, phaseOn := false, phaseTimer := none } r.lit
      rw [← hq] at hrest
      refine ⟨by rw [hnone]; rw [hrest], fun h => absurd h hsame, fun _ => ⟨fun _ => ?_, fun h => absurd hnone h, ?_⟩⟩
      · rw [hrest]; exact ⟨rfl, rfl⟩
      · rw [hq]; rw [LampRec.proveAfter_prove]
        rw [LampRec.proveAfter_rest]; rfl
    · rw [if_neg hnone] at hq
      generalize hp : r.patternOf cfg r.classNow = p at hq
      generalize ho : r.startsOn r.classNow = on at hq
      have hstart := LampRec.startPattern_rest { r with cls := r.classNow } p on
      have hbegins := LampRec.begins_startPattern { r with cls := r.classNow } p on
      generalize hv : ({ r with cls := r.classNow } : LampRec).startPattern p on = v at hq hstart hbegins
      have hrest := LampRec.proveAfter_rest v r.lit
      rw [← hq] at hrest
      refine ⟨by rw [hrest, hstart], fun h => absurd h hsame, fun _ => ⟨fun h => absurd h hnone, fun _ => ?_, ?_⟩⟩
      · exact hbegins.congr (by rw [hrest]) (by rw [hrest])
      · have hlit : q.lit = v.lit := by rw [hrest]; rfl
        rw [hlit, hq, LampRec.proveAfter_prove, hstart]

end Sys2Proof.Machine

/-! O4: a lamp, a channel and the whole part as they are derived, and that deriving a second time changes nothing. -/

namespace Sys2Proof.Machine

variable {s t : State} {a : Actuator} {k : Stroke}

/-! ### The demands of a lamp (R120, R121, R124) -/

/-- Motion demand, its trail, fault demand and the lead clock, as they are derived before the class. -/
def LampRec.demanded (r : LampRec) (announcing : Bool) (trail : Nat) (fault : Bool) : LampRec :=
  ({ r.deriveMotion announcing trail with fault := fault }).deriveLead

theorem State.lampNow_eq (n : Lamp) : s.lampNow n =
    ((s.lamp n).demanded (s.lampAnnouncing n) (s.trailInForce n) (s.lampFaultDemand n)).deriveClass (s.lampCfg n) := rfl

theorem LampRec.deriveMotion_rest (r : LampRec) (b : Bool) (trail : Nat) : r.deriveMotion b trail = { r with
    motion := (r.deriveMotion b trail).motion, trailTimer := (r.deriveMotion b trail).trailTimer } := by
  unfold LampRec.deriveMotion; repeat' split
  all_goals rfl

/-- Motion demand and the trail timer (R120). -/
theorem LampRec.deriveMotion_spec (r : LampRec) (b : Bool) (trail : Nat) :
    let q := r.deriveMotion b trail
    (b = true → q.motion = .slot ∧ q.trailTimer = none)
      ∧ (b = false → r.motion = .slot ∧ trail = 0 → q.motion = .absent ∧ q.trailTimer = none)
      ∧ (b = false → ¬(r.motion = .slot ∧ trail = 0) → r.motion = .slot → q.motion = .trail ∧ q.trailTimer = some 0)
      ∧ (b = false → r.motion ≠ .slot → q = r) := by
  unfold LampRec.deriveMotion
  cases b
  · cases hm : r.motion
    case slot => by_cases ht : trail = 0 <;> simp [ht]
    all_goals simp
  · simp

theorem LampRec.deriveMotion_not_slot (r : LampRec) (trail : Nat) : (r.deriveMotion false trail).motion ≠ .slot := by
  obtain ⟨-, h0, h1, h2⟩ := r.deriveMotion_spec false trail
  by_cases hm : r.motion = .slot
  · by_cases ht : r.motion = .slot ∧ trail = 0
    · rw [(h0 rfl ht).1]; decide
    · rw [(h1 rfl ht hm).1]; decide
  · rw [h2 rfl hm]; exact hm

theorem LampRec.deriveMotion_idem {r : LampRec} {b : Bool} {trail : Nat}
    (h : b = true → r.motion = .slot ∧ r.trailTimer = none) (h' : b = false → r.motion ≠ .slot) :
    r.deriveMotion b trail = r := by
  cases b with
  | true =>
    obtain ⟨hm, ht⟩ := h rfl
    unfold LampRec.deriveMotion
    rw [if_pos rfl, ← hm, ← ht]
  | false => exact (r.deriveMotion_spec false trail).2.2.2 rfl (h' rfl)

theorem LampRec.deriveLead_rest (r : LampRec) : r.deriveLead = { r with
    lead := if r.motion ≠ .absent ∨ r.fault = true then some (r.lead.getD 0) else none } := by
  unfold LampRec.deriveLead
  by_cases hm : r.motion = .absent <;> cases hf : r.fault <;> simp [hm]

theorem LampRec.demanded_rest (r : LampRec) (b : Bool) (trail : Nat) (fault : Bool) : r.demanded b trail fault = { r with
    motion := (r.deriveMotion b trail).motion
    trailTimer := (r.deriveMotion b trail).trailTimer
    fault := fault
    lead := if (r.deriveMotion b trail).motion ≠ .absent ∨ fault = true then some (r.lead.getD 0) else none } := by
  rw [LampRec.demanded, LampRec.deriveLead_rest]
  rw [LampRec.deriveMotion_rest]

theorem LampRec.deriveLead_idem {r : LampRec}
    (h : r.lead = if r.motion ≠ .absent ∨ r.fault = true then some (r.lead.getD 0) else none) : r.deriveLead = r := by
  rw [LampRec.deriveLead_rest, ← h]

/-- Deriving a lamp twice is deriving it once. -/
theorem LampRec.follow_idem (r : LampRec) (cfg : LampCfg) (b : Bool) (trail : Nat) (fault : Bool) :
    (((r.demanded b trail fault).deriveClass cfg).demanded b trail fault).deriveClass cfg
      = (r.demanded b trail fault).deriveClass cfg := by
  obtain ⟨hq, -, -⟩ := (r.demanded b trail fault).deriveClass_spec cfg
  have hd := r.demanded_rest b trail fault
  generalize hqn : (r.demanded b trail fault).deriveClass cfg = q at hq ⊢
  have hmotion : q.motion = (r.deriveMotion b trail).motion := by rw [hq, hd]
  have htrail : q.trailTimer = (r.deriveMotion b trail).trailTimer := by rw [hq, hd]
  have hfault : q.fault = fault := by rw [hq, hd]
  have hlead : q.lead = if q.motion ≠ .absent ∨ q.fault = true then some (q.lead.getD 0) else none := by
    rw [hmotion, hfault, hq, hd]
    dsimp only
    split <;> rfl
  have hcls : q.classNow = q.cls := by
    have : q.classNow = (r.demanded b trail fault).classNow := by
      unfold LampRec.classNow; rw [hq]
    rw [this, hq]
  have hsame : q.deriveMotion b trail = q := by
    refine LampRec.deriveMotion_idem (fun hb => ?_) (fun hb => ?_)
    · rw [hmotion, htrail]; exact (r.deriveMotion_spec b trail).1 hb
    · rw [hmotion]; subst hb; exact r.deriveMotion_not_slot trail
  have hdemanded : q.demanded b trail fault = q := by
    rw [LampRec.demanded, hsame, ← hfault]
    exact LampRec.deriveLead_idem hlead
  rw [hdemanded]
  exact (q.deriveClass_spec cfg).2.1 hcls

/-! ### The demands of a lamp, as the rules name them -/

theorem State.lampAnnouncing_iff {n : Lamp} : s.lampAnnouncing n = true ↔ s.Announced n := by
  have hgranted : ∀ st : SlotState, st.granted = true ↔ st ∈ [SlotState.priming, .running, .holding, .settling] := by
    intro st; cases st <;> decide
  have hall : ∀ a, a ∈ Actuator.all := fun a => by cases a <;> decide
  simp only [State.lampAnnouncing, State.Announced, List.any_eq_true, Bool.and_eq_true, hgranted]
  exact exists_congr fun a => and_iff_right (hall a)

theorem State.lampFaultDemand_iff {n : Lamp} : s.lampFaultDemand n = true ↔
    (s.lampCfg n).faultInd = true ∧ s.awake = true
      ∧ ((∃ e ∈ s.faults.entries, ∃ a k, s.tables.Covered e a k) ∨ s.faults.full = true ∨ s.device.state = .stopped) := by
  simp [State.lampFaultDemand, State.someBlocking_iff, and_assoc, or_assoc]

theorem State.trailInForce_eq_zero_iff {n : Lamp} :
    s.trailInForce n = 0 ↔ max (s.lampCfg n).trail s.tables.timing.trailBase = 0 := by
  simp [State.trailInForce, ms]

/-- The class that the demands give (R118). -/
theorem LampRec.classNow_eq (r : LampRec) : r.classNow = if r.fault = true then .fault else if r.motion ≠ .absent then .motion
    else if r.manual ≠ none then .manual else .none := by
  unfold LampRec.classNow
  cases hm : r.manual <;> simp

/-- Settles the lamps' part of O4: each lamp follows as R118 to R121, R124 and R125 say. -/
theorem State.lampsFollow_of_lampNow (ht : ∀ n, t.lamp n = s.lampNow n) : s.LampsFollow t := by
  intro n r q cfg motionless
  have hq : q = ((s.lamp n).demanded (s.lampAnnouncing n) (s.trailInForce n) (s.lampFaultDemand n)).deriveClass cfg :=
    (ht n).trans (State.lampNow_eq n)
  have hannounced : s.Announced n ↔ s.lampAnnouncing n = true := State.lampAnnouncing_iff.symm
  have hsilent : ¬s.Announced n → s.lampAnnouncing n = false := fun h => Bool.eq_false_iff.2 fun hb => h (hannounced.2 hb)
  have hmotionless : motionless ↔ r.motion = .slot ∧ s.trailInForce n = 0 := and_congr_right fun _ =>
    State.trailInForce_eq_zero_iff.symm
  have hd := (s.lamp n).demanded_rest (s.lampAnnouncing n) (s.trailInForce n) (s.lampFaultDemand n)
  obtain ⟨hann, hend, htrail, hkeep⟩ := (s.lamp n).deriveMotion_spec (s.lampAnnouncing n) (s.trailInForce n)
  generalize hv : (s.lamp n).demanded (s.lampAnnouncing n) (s.trailInForce n) (s.lampFaultDemand n) = v at hq hd
  obtain ⟨hrest, hsame, hchange⟩ := v.deriveClass_spec cfg
  rw [← hq] at hrest hsame hchange
  have hmotion : q.motion = ((s.lamp n).deriveMotion (s.lampAnnouncing n) (s.trailInForce n)).motion := by rw [hrest, hd]
  have htimer : q.trailTimer = ((s.lamp n).deriveMotion (s.lampAnnouncing n) (s.trailInForce n)).trailTimer := by
    rw [hrest, hd]
  have hfault : q.fault = s.lampFaultDemand n := by rw [hrest, hd]
  have hmanual : q.manual = r.manual := by rw [hrest, hd]
  have hcls : q.cls = v.classNow := by rw [hrest]
  have hvcls : v.cls = r.cls := by rw [hd]
  refine ⟨fun h => ?_, fun h hm => ?_, fun h hm hs => ?_, fun h hs => ?_, ?_, ?_, ?_, hmanual, by rw [hrest, hd],
    by rw [hrest, hd], fun h => ?_, fun h => ?_⟩
  · rw [hmotion, htimer]; exact hann (hannounced.1 h)
  · rw [hmotion, htimer]; exact hend (hsilent h) (hmotionless.1 hm)
  · rw [hmotion, htimer]; exact htrail (hsilent h) (fun h' => hm (hmotionless.2 h')) hs
  · rw [hmotion, htimer, hkeep (hsilent h) hs]; exact ⟨rfl, rfl⟩
  · rw [hfault]; exact State.lampFaultDemand_iff
  · rw [hcls, LampRec.classNow_eq, hmotion, hfault, hd]
  · rw [hmotion, hfault, hrest, hd]
  · rw [hsame (by rw [← hcls, h, hvcls]), hd]; exact ⟨rfl, rfl, rfl⟩
  · obtain ⟨hoff, hbegins, hprove⟩ := hchange (by rw [← hcls, hvcls]; exact h)
    rw [← hcls] at hoff hbegins
    refine ⟨fun hc => ?_, fun hc => ?_, fun m hc hm => ?_, hoff, ?_⟩
    · have := hbegins (by rw [hc]; decide)
      rw [hc] at this
      exact this
    · have := hbegins (by rw [hc]; decide)
      rw [hc] at this
      exact this
    · have := hbegins (by rw [hc]; decide)
      have hvm : v.manual = some m := by rw [hd]; exact hm
      rw [hc] at this
      simpa [LampRec.patternOf, LampRec.startsOn, hvm] using this
    · rw [hprove]
      have hvlit : v.lit = true ↔ r.cls ≠ .none ∧ r.phaseOn = true := by rw [hd]; simp [LampRec.lit]; rfl
      have hvprove : v.prove = r.prove := by rw [hd]
      simp only [q.lit_eq_false_iff, hvlit, hvprove]

/-! ### One channel (R133 to R138) -/

theorem ChanRec.take_idem (r : ChanRec) (w : Request) : (r.take w).take w = r.take w := by
  unfold ChanRec.take
  cases hd : r.drive <;> cases w <;> simp [hd]

theorem ChanRec.take_tripped_iff (r : ChanRec) (w : Request) : (r.take w).drive = .tripped ↔ r.drive = .tripped := by
  unfold ChanRec.take
  cases hd : r.drive <;> cases w <;> simp [hd]

theorem State.cutOff_iff {f : Func} : s.CutOff f ↔ (f.isPower && s.cutoff) = true := by
  have hpower : f ∈ [Func.pump, .lower, .tiltv, .khatchv, .ohatchv, .divert] ↔ f.isPower = true := by cases f <;> decide
  unfold State.CutOff State.cutoff
  rw [hpower]
  simp

/-- What the request of a function asks of the channel that carries it, the cutoff apart (R133). -/
def Request.atChannel (f : Func) (c : Chan) : Request → Request
  | .off => .off
  | .on => if f = .lower then .off else .on
  | .pwm d => if f = .lower && decide (c.val ≤ 3) then .pwm d else .off

/-- What a channel is to drive, by the function that it carries (R133, R134, R136). -/
theorem State.channelWants_of_carries {c : Chan} {f : Func} (h : s.Carries c f) (hcut : ¬s.CutOff f) :
    s.channelWants c = (s.request f).atChannel f c := by
  rw [State.cutOff_iff] at hcut
  unfold State.channelWants
  rw [h.1]
  dsimp only
  rw [State.carrier_eq_some.2 h, if_neg (by simp), if_neg hcut]
  rfl

/-- A channel that is to drive anything carries a function that no cutoff keeps off. -/
theorem State.carries_of_channelWants {c : Chan} (h : s.channelWants c ≠ .off) : ∃ f, s.Carries c f ∧ ¬s.CutOff f := by
  unfold State.channelWants at h
  split at h
  · exact absurd rfl h
  · next f _ =>
    split at h
    · exact absurd rfl h
    · next hc =>
      split at h
      · exact absurd rfl h
      · next hcut => exact ⟨f, State.carrier_eq_some.1 (not_not.1 hc), fun h => hcut (State.cutOff_iff.1 h)⟩

theorem State.channelWants_on_iff {c : Chan} : s.channelWants c = .on ↔
    ∃ f, s.Carries c f ∧ f ≠ .lower ∧ s.request f = .on ∧ ¬s.CutOff f := by
  constructor
  · intro h
    obtain ⟨f, hf, hcut⟩ := State.carries_of_channelWants (s := s) (c := c) (by rw [h]; nofun)
    rw [State.channelWants_of_carries hf hcut] at h
    cases hr : s.request f <;> rw [hr] at h
    case off => cases h
    case on =>
      refine ⟨f, hf, ?_, hr, hcut⟩
      rintro rfl
      cases h
    case pwm d => unfold Request.atChannel at h; dsimp only at h; split at h <;> cases h
  · rintro ⟨f, hf, hl, hr, hcut⟩
    rw [State.channelWants_of_carries hf hcut, hr]
    exact if_neg hl

theorem State.channelWants_pwm_iff {c : Chan} {d : Nat} : s.channelWants c = .pwm d ↔
    s.Carries c .lower ∧ c.val ≤ 3 ∧ s.request .lower = .pwm d ∧ ¬s.CutOff .lower := by
  constructor
  · intro h
    obtain ⟨f, hf, hcut⟩ := State.carries_of_channelWants (s := s) (c := c) (by rw [h]; nofun)
    rw [State.channelWants_of_carries hf hcut] at h
    cases hr : s.request f <;> rw [hr] at h
    case off => cases h
    case on => unfold Request.atChannel at h; dsimp only at h; split at h <;> cases h
    case pwm e =>
      unfold Request.atChannel at h
      dsimp only at h
      split at h
      · next hl =>
        cases h
        simp only [Bool.and_eq_true, decide_eq_true_eq] at hl
        obtain ⟨rfl, hle⟩ := hl
        exact ⟨hf, hle, hr, hcut⟩
      · cases h
  · rintro ⟨hf, hle, hr, hcut⟩
    rw [State.channelWants_of_carries hf hcut, hr]
    exact if_pos (by simp [hle])

theorem State.channelsFollow_of_take (ht : ∀ c, t.chan c = (s.chan c).take (t.channelWants c)) : s.ChannelsFollow t := by
  intro c r on pwm
  have hchan := ht c
  have hon : on ↔ t.channelWants c = .on := State.channelWants_on_iff.symm
  have hpwm : ∀ d, pwm d ↔ t.channelWants c = .pwm d := fun d => State.channelWants_pwm_iff.symm
  rw [hchan]
  refine ⟨fun hr => ?_, fun hr hno hnp => ?_, fun hr h => ?_, fun hr h => ?_, fun hr h => ?_, fun d hr h => ?_,
    fun d hr h => ?_, fun d hr h => ?_⟩
  · unfold ChanRec.take; rw [hr]
  · have hoff : t.channelWants c = .off := by
      cases hw : t.channelWants c with
      | off => rfl
      | on => exact absurd (hon.2 hw) hno
      | pwm d => exact absurd ((hpwm d).2 hw) (hnp d)
    rw [hoff]
    unfold ChanRec.take
    cases hd : (s.chan c).drive
    case tripped => exact absurd hd hr
    all_goals rfl
  · rw [hon.1 h]; unfold ChanRec.take; rw [hr]
  · rw [hon.1 h]; unfold ChanRec.take; rw [hr]
  · rw [hon.1 h]; unfold ChanRec.take; rw [hr]
  · rw [(hpwm d).1 h]; unfold ChanRec.take; rw [hr]
  · rw [(hpwm d).1 h]; unfold ChanRec.take; rw [hr]
  · rw [(hpwm d).1 h]; unfold ChanRec.take; rw [hr]

end Sys2Proof.Machine

/-! O4: the whole part as it is derived, and the order in which arrivals are taken. -/

namespace Sys2Proof.Machine

variable {s t : State} {a : Actuator} {k : Stroke}

/-! ### The sources of what is derived -/

/-- What the derived values follow from, other than one another. -/
def State.sources (s : State) :=
  (s.device, s.inputs, s.tables, s.slots, s.arbiter, s.supply, s.captures, s.faults, s.profile, s.permit.standstill)

theorem State.derive_sources (s : State) : s.derive.sources = s.sources := by
  have h1 : ∀ v : State, v.deriveHatches.sources = v.sources := fun _ => rfl
  have h2 : ∀ v : State, v.deriveConds.sources = v.sources := fun _ => rfl
  have h3 : ∀ v : State, v.deriveLamps.sources = v.sources := fun _ => rfl
  have h4 : ∀ v : State, v.deriveReady.sources = v.sources := fun _ => rfl
  have h5 : ∀ v : State, v.deriveRequests.sources = v.sources := fun _ => rfl
  have h6 : ∀ v : State, v.deriveChannels.sources = v.sources := fun _ => rfl
  have h7 : ∀ v : State, v.deriveStuck.sources = v.sources := fun _ => rfl
  rw [State.derive, h7, h6, h5, h4, h3, h2, h1]

section
variable (h : t.sources = s.sources)
include h

theorem State.device_of_sources : t.device = s.device := congrArg (fun x => x.1) h
theorem State.inputs_of_sources : t.inputs = s.inputs := congrArg (fun x => x.2.1) h
theorem State.tables_of_sources : t.tables = s.tables := congrArg (fun x => x.2.2.1) h
theorem State.slots_of_sources : t.slots = s.slots := congrArg (fun x => x.2.2.2.1) h
theorem State.arbiter_of_sources : t.arbiter = s.arbiter := congrArg (fun x => x.2.2.2.2.1) h
theorem State.supply_of_sources : t.supply = s.supply := congrArg (fun x => x.2.2.2.2.2.1) h
theorem State.captures_of_sources : t.captures = s.captures := congrArg (fun x => x.2.2.2.2.2.2.1) h
theorem State.faults_of_sources : t.faults = s.faults := congrArg (fun x => x.2.2.2.2.2.2.2.1) h
theorem State.standstill_of_sources : t.permit.standstill = s.permit.standstill :=
  congrArg (fun x => x.2.2.2.2.2.2.2.2.2) h
theorem State.profile_of_sources : t.profile = s.profile := congrArg (fun x => x.2.2.2.2.2.2.2.2.1) h

theorem State.awake_of_sources : t.awake = s.awake := by rw [State.awake, State.device_of_sources h, State.awake]

theorem State.asserted?_of_sources (i : Input) : t.asserted? i = s.asserted? i := by
  unfold State.asserted? State.input State.setup
  rw [State.inputs_of_sources h, State.tables_of_sources h]

theorem State.asserted_of_sources (i : Input) : t.asserted i = s.asserted i := by
  rw [State.asserted, State.asserted?_of_sources h, State.asserted]

theorem State.hatchNow_of_sources (g : Hatch) : t.hatchNow g = s.hatchNow g := by
  rw [State.hatchNow, State.awake_of_sources h, State.asserted?_of_sources h, State.asserted?_of_sources h, State.hatchNow]

theorem State.condsNow_of_sources (hg : ∀ g, t.hatchPos g = s.hatchPos g) : t.condsNow = s.condsNow := by
  have hcapture : ∀ m, t.capture m = s.capture m := fun m => by
    rw [State.capture, State.captures_of_sources h, State.capture]
  have hsource : ∀ c, t.condSource c = s.condSource c := fun c => by
    cases c
    case liftAtBed => unfold State.condSource; rw [hcapture, State.tables_of_sources h]
    all_goals simp only [State.condSource, State.asserted_of_sources h, State.deasserted, State.asserted?_of_sources h,
      State.standstill_of_sources h, State.supply_of_sources h, hcapture, hg]
  simp only [State.condsNow, State.awake_of_sources h, hsource]

theorem State.pumpAsked_of_sources : t.pumpAsked = s.pumpAsked := by
  unfold State.pumpAsked State.slot
  rw [State.slots_of_sources h, State.arbiter_of_sources h]

theorem State.slot_of_sources (a : Actuator) : t.slot a = s.slot a := by
  rw [State.slot, State.slots_of_sources h, State.slot]

theorem State.lampNow_of_sources (n : Lamp) : t.lampNow n =
    ((t.lamp n).demanded (s.lampAnnouncing n) (s.trailInForce n) (s.lampFaultDemand n)).deriveClass (s.lampCfg n) := by
  have hcfg : t.lampCfg n = s.lampCfg n := by rw [State.lampCfg, State.tables_of_sources h, State.lampCfg]
  have hann : t.lampAnnouncing n = s.lampAnnouncing n := by
    simp only [State.lampAnnouncing, hcfg, State.slot, State.slots_of_sources h]
  have htrail : t.trailInForce n = s.trailInForce n := by
    rw [State.trailInForce, hcfg, State.tables_of_sources h, State.trailInForce]
  have hfault : t.lampFaultDemand n = s.lampFaultDemand n := by
    simp only [State.lampFaultDemand, hcfg, State.awake_of_sources h, State.someBlocking, State.faults_of_sources h,
      State.tables_of_sources h, State.device_of_sources h]
  rw [State.lampNow_eq, hcfg, hann, htrail, hfault]

end

/-! ### The stages of `derive` -/

/-- The part with its hatch positions derived. -/
theorem State.derive_hatchPos (h : Hatch) : s.derive.hatchPos h = s.hatchNow h := by cases h <;> rfl

theorem State.derive_hatchNow (h : Hatch) : s.derive.hatchNow h = s.hatchNow h :=
  State.hatchNow_of_sources s.derive_sources h

theorem State.derive_conds : s.derive.permit.conds = s.derive.condsNow := by
  have h : s.derive.permit.conds = s.deriveHatches.condsNow := rfl
  have hbefore : s.deriveHatches.sources = s.sources := rfl
  have hpos : ∀ g, s.derive.hatchPos g = s.deriveHatches.hatchPos g := fun g =>
    (State.derive_hatchPos g).trans (by cases g <;> rfl)
  rw [h, State.condsNow_of_sources (s.derive_sources.trans hbefore.symm) hpos]

theorem State.derive_lamp (n : Lamp) : s.derive.lamp n = s.lampNow n := Table.get_ofFn _ n

theorem State.derive_wanted (f : Func) : s.derive.request f = s.derive.wanted f := by
  have h : s.derive.request f = s.deriveHatches.deriveConds.deriveLamps.deriveReady.wanted (Func.ofIx f.ix) :=
    Table.get_ofFn _ f.ix
  rw [h]
  cases f <;> rfl

theorem State.derive_chan (c : Chan) : s.derive.chan c = (s.chan c).take (s.derive.channelWants c) := Table.get_ofFn _ c

/-- The state before its readiness is derived. -/
def State.beforeReady (s : State) : State := s.deriveHatches.deriveConds.deriveLamps

theorem State.derive_ready : s.derive.permit.ready = s.beforeReady.readyNow := rfl

theorem State.beforeReady_notReadyCause (a : Actuator) (k : Stroke) :
    s.beforeReady.notReadyCause a k = s.derive.notReadyCause a k := by
  refine (State.notReadyCause_congr (s := s.beforeReady) (t := s.derive) rfl rfl (fun _ => rfl) fun c => ?_).symm
  rw [State.derive_chan]
  exact ChanRec.take_tripped_iff _ _

theorem exists_strokeIx (i : Fin 8) : ∃ a k, i = strokeIx a k := by
  revert i
  suffices h : ∀ i : Fin 8, ∃ p ∈ allStrokes, i = strokeIx p.1 p.2 from fun i => by
    obtain ⟨p, -, hp⟩ := h i
    exact ⟨p.1, p.2, hp⟩
  decide

theorem State.derive_readyNow : s.derive.readyNow = s.derive.permit.ready := by
  rw [State.derive_ready]
  by_cases h : s.device.state = .dormant
  · have hderived : s.derive.readyNow = s.derive.permit.ready := if_pos (s.derive_deviceState.trans h)
    rw [hderived, State.derive_ready]
  · refine Table.ext_get fun i => ?_
    obtain ⟨a, k, rfl⟩ := exists_strokeIx i
    rw [State.readyNow_get (by rw [State.derive_deviceState]; exact h), State.readyNow_get (s := s.beforeReady) h,
      State.beforeReady_notReadyCause]

/-! ### Nothing changes when nothing would -/

theorem State.deriveHatches_of_settled (h : ∀ g, s.hatchNow g = s.hatchPos g) : s.deriveHatches = s := by
  have htable : (⟨[s.hatchNow .kerbside, s.hatchNow .offside], rfl⟩ : Table HatchPos 2) = s.permit.hatch := by
    rw [h, h]
    refine Table.ext_get fun i => ?_
    obtain rfl | rfl := Ctx.eq_zero_or_one i <;> rfl
  have hnone : (Hatch.all.filter fun g => decide (s.hatchNow g ≠ s.hatchPos g)) = [] := by simp [h]
  unfold State.deriveHatches
  rw [hnone, htable]
  simp [State.pushAll]

theorem State.deriveConds_of_settled (h : s.condsNow = s.permit.conds) : s.deriveConds = s := by
  have hnone : s.condChanges = [] := by simp [State.condChanges, State.cond, h]
  unfold State.deriveConds
  rw [hnone, h]
  simp [State.pushAll]

theorem State.deriveLamps_of_settled (h : ∀ n, s.lampNow n = s.lamp n) : s.deriveLamps = s := by
  have : Table.ofFn s.lampNow = s.lamps := Table.ext_get fun n => by rw [Table.get_ofFn, h]; rfl
  unfold State.deriveLamps
  rw [this]

theorem State.deriveReady_of_settled (h : s.readyNow = s.permit.ready) : s.deriveReady = s := by
  have hnone : s.readyChanges = [] := by simp [State.readyChanges, State.ready, h]
  unfold State.deriveReady
  rw [hnone, h]
  simp [State.pushAll]

theorem Func.ix_ofIx (i : Fin 12) : (Func.ofIx i).ix = i := by revert i; decide

theorem State.deriveRequests_of_settled (h : ∀ f, s.wanted f = s.request f) : s.deriveRequests = s := by
  have : (Table.ofFn fun i => s.wanted (Func.ofIx i)) = s.bank.requests := Table.ext_get fun i => by
    rw [Table.get_ofFn, h, State.request, Func.ix_ofIx]
  unfold State.deriveRequests
  rw [this]

theorem State.deriveChannels_of_settled (h : ∀ c, (s.chan c).take (s.channelWants c) = s.chan c) : s.deriveChannels = s := by
  have : (Table.ofFn fun c => (s.chan c).take (s.channelWants c)) = s.bank.channels := Table.ext_get fun c => by
    rw [Table.get_ofFn, h]; rfl
  unfold State.deriveChannels
  rw [this]

theorem State.deriveStuck_of_settled (h : s.stuckNow = s.stuck.timer) : s.deriveStuck = s := by
  unfold State.deriveStuck
  rw [h]

theorem timerAt_getD {v : Option Nat} {limit : Nat} (hl : 0 < limit) : timerAt v limit = true ↔ limit ≤ v.getD 0 := by
  cases v with
  | none => simp [timerAt]; omega
  | some v => simp [timerAt]

/-- The stuck watch after one derivation, as its sources stand (R41). -/
theorem State.derive_stuck : s.derive.stuck.timer =
    if !(s.awake && s.asserted .pumprun) then none
    else if timerAt s.stuck.timer (ms 500) then s.stuck.timer
    else if s.pumpAsked then none
    else some (s.stuck.timer.getD 0) := by
  have h : s.derive.stuck.timer = s.beforeReady.deriveReady.deriveRequests.deriveChannels.stuckNow := rfl
  have hsources : s.beforeReady.deriveReady.deriveRequests.deriveChannels.sources = s.sources := s.derive_sources
  have htimer : s.beforeReady.deriveReady.deriveRequests.deriveChannels.stuck.timer = s.stuck.timer := rfl
  rw [h, State.stuckNow, State.awake_of_sources hsources, State.asserted_of_sources hsources,
    State.pumpAsked_of_sources hsources, htimer]

theorem State.derive_stuckNow : s.derive.stuckNow = s.derive.stuck.timer := by
  rw [State.stuckNow, State.awake_of_sources s.derive_sources, State.asserted_of_sources s.derive_sources,
    State.pumpAsked_of_sources s.derive_sources, State.derive_stuck]
  split
  · rfl
  · by_cases ht : timerAt s.stuck.timer (ms 500) = true
    · simp only [ht, if_pos]
    · cases hp : s.pumpAsked
      · have hsame : timerAt (some (s.stuck.timer.getD 0)) (ms 500) = timerAt s.stuck.timer (ms 500) := by
          cases s.stuck.timer <;> rfl
        simp [ht, hsame]
      · have hnone : timerAt none (ms 500) = false := rfl
        simp [ht, hnone]

theorem State.derive_of_settled (hhatch : ∀ g, s.hatchNow g = s.hatchPos g) (hconds : s.condsNow = s.permit.conds)
    (hlamp : ∀ n, s.lampNow n = s.lamp n) (hready : s.readyNow = s.permit.ready) (hwanted : ∀ f, s.wanted f = s.request f)
    (hchan : ∀ c, (s.chan c).take (s.channelWants c) = s.chan c) (hstuck : s.stuckNow = s.stuck.timer) : s.derive = s := by
  rw [State.derive, State.deriveHatches_of_settled hhatch, State.deriveConds_of_settled hconds,
    State.deriveLamps_of_settled hlamp, State.deriveReady_of_settled hready, State.deriveRequests_of_settled hwanted,
    State.deriveChannels_of_settled hchan, State.deriveStuck_of_settled hstuck]

/-- Deriving a second time changes nothing. -/
theorem State.derive_derive (s : State) : s.derive.derive = s.derive := by
  have hlamp : ∀ n, s.derive.lampNow n = s.derive.lamp n := fun n => by
    have hfollow := LampRec.follow_idem (s.lamp n) (s.lampCfg n) (s.lampAnnouncing n) (s.trailInForce n) (s.lampFaultDemand n)
    rw [← State.lampNow_eq, ← State.derive_lamp, ← State.lampNow_of_sources s.derive_sources] at hfollow
    exact hfollow
  have hchan : ∀ c, (s.derive.chan c).take (s.derive.channelWants c) = s.derive.chan c := fun c => by
    rw [State.derive_chan]; exact ChanRec.take_idem _ _
  exact State.derive_of_settled (fun g => (State.derive_hatchNow g).trans (State.derive_hatchPos g).symm) State.derive_conds.symm
    hlamp State.derive_readyNow (fun f => (State.derive_wanted f).symm) hchan State.derive_stuckNow

/-! ### The parts of O4 -/

theorem State.derive_hatchesFollow : s.derive.HatchesFollow := fun h => by
  rw [State.derive_hatchPos, ← State.derive_hatchNow]; exact State.hatchNow_eq h

theorem State.derive_conditionsFollow : s.derive.ConditionsFollow := by
  intro c
  rw [State.cond, State.derive_conds, State.condsNow_has, Bool.and_eq_true]
  refine and_congr_right fun _ => ?_
  cases c
  case estopClear => exact decide_eq_true_iff
  case supplyNormal | khShut | khOpen | ohShut | ohOpen => exact decide_eq_true_iff
  case supplyUsable =>
    simp only [State.condSource, decide_eq_true_eq]
    cases s.derive.supply.zone <;> simp
  case liftAtBed =>
    simp only [State.condSource, Bool.and_eq_true, decide_eq_true_eq]
    exact and_congr_right fun _ => by omega
  all_goals exact Iff.rfl

theorem State.derive_readinessFollows : s.ReadinessFollows s.derive := by
  intro a k
  split
  · next h => exact congrArg (fun r : Table Bool 8 => r.get (strokeIx a k)) (if_pos h)
  · next h =>
    have hget : s.derive.ready a k = (s.derive.notReadyCause a k).isNone := by
      rw [State.ready, State.derive_ready, State.readyNow_get (s := s.beforeReady) h, State.beforeReady_notReadyCause]
    rw [hget]
    exact State.notReadyCause_isNone_iff

theorem Request.onWhen_ofBool {b : Bool} {p : Prop} (h : b = true ↔ p) : (Request.ofBool b).OnWhen p := by
  cases b
  · exact ⟨fun hp => absurd (h.2 hp) (by decide), fun _ => rfl⟩
  · exact ⟨fun _ => rfl, fun hp => absurd (h.1 rfl) hp⟩

theorem Slot.valveOn_iff (r : Slot) : r.valveOn = true ↔ r.Drives := by simp [Slot.valveOn, Slot.Drives]

theorem Slot.divertOn_iff (r : Slot) : r.divertOn = true ↔ r.stroke = some .powered ∧ r.Drives := by
  simp [Slot.divertOn, Slot.valveOn_iff]

theorem State.pumpAsked_iff : s.pumpAsked = true ↔
    ∃ a, s.arbiter.pumpOwner = some a ∧ ((s.slot a).state = .priming ∨ (s.slot a).state = .running) := by
  unfold State.pumpAsked
  split
  · next a h => simp [h]
  · next h => simp [h]

theorem State.requestsFollow_of_wanted (hs : t.sources = s.sources) (hp : t.profile = s.profile)
    (hw : ∀ f, t.request f = t.wanted f) (h0 : t.request .aux0 = s.request .aux0) (h1 : t.request .aux1 = s.request .aux1) :
    s.RequestsFollow t := by
  unfold State.RequestsFollow
  intro lift lowers
  have hslot : ∀ a, t.slot a = s.slot a := State.slot_of_sources hs
  have hlowers : lowers ↔ (decide (lift.stroke = some .ret) && (decide (lift.state = .running) || decide (lift.state = .settling))
      && decide (s.profile.uOut ≠ 0)) = true := by simp [lowers, and_assoc]
  have hlower : t.request .lower = if (decide (lift.stroke = some .ret)
      && (decide (lift.state = .running) || decide (lift.state = .settling)) && decide (s.profile.uOut ≠ 0)) then
      .pwm s.profile.uOut else .off := by
    rw [hw]
    unfold State.wanted State.lowerRequest
    dsimp only
    rw [hslot, hp]
  have hvalve : ∀ a, (Request.ofBool (t.slot a).valveOn).OnWhen (s.slot a).Drives := fun a => by
    rw [hslot]; exact Request.onWhen_ofBool (Slot.valveOn_iff _)
  refine ⟨?_, fun h => ?_, fun h => ?_, ?_, ?_, ?_, ?_, fun n => ?_, h0, h1⟩
  · rw [hw, State.wanted, State.pumpAsked_of_sources hs]; exact Request.onWhen_ofBool State.pumpAsked_iff
  · rw [hlower]; exact if_pos (hlowers.1 h)
  · rw [hlower]; exact if_neg fun h' => h (hlowers.2 h')
  · rw [hw]; exact hvalve .tilt
  · rw [hw]; exact hvalve .khatch
  · rw [hw]; exact hvalve .ohatch
  · rw [hw, State.wanted, hslot, hslot]
    exact Request.onWhen_ofBool (by rw [Bool.or_eq_true, Slot.divertOn_iff, Slot.divertOn_iff])
  · have hlamp : t.wanted (lampFunc n) = .ofBool (t.lamp n).lit := by
      fin_cases n <;> rfl
    rw [hw, hlamp]
    exact Request.onWhen_ofBool (by simp [LampRec.lit])

theorem State.derive_requestsFollow : s.RequestsFollow s.derive := by
  have haux : ∀ f, s.derive.request f = s.beforeReady.deriveReady.wanted (Func.ofIx f.ix) := fun f => Table.get_ofFn _ f.ix
  have hbank : s.beforeReady.deriveReady.bank = s.bank := rfl
  have hkept : ∀ f, s.beforeReady.deriveReady.request f = s.request f := fun f => by
    rw [State.request, hbank, State.request]
  have hprofile : s.derive.profile = s.profile := State.profile_of_sources s.derive_sources
  exact State.requestsFollow_of_wanted s.derive_sources hprofile State.derive_wanted ((haux .aux0).trans (hkept .aux0))
    ((haux .aux1).trans (hkept .aux1))

theorem State.derive_stuckWatchFollows : s.StuckWatchFollows s.derive := by
  have hpump : s.derive.request .pump = .on ↔ s.pumpAsked = true := by
    rw [State.derive_wanted, State.wanted, State.pumpAsked_of_sources s.derive_sources]
    cases s.pumpAsked <;> simp [Request.ofBool]
  have hrun : s.awake = false ∨ s.asserted .pumprun = false ↔ (!(s.awake && s.asserted .pumprun)) = true := by
    cases s.awake <;> cases s.asserted .pumprun <;> simp
  unfold State.StuckWatchFollows
  rw [State.derive_stuck]
  have ht : timerAt s.stuck.timer (ms 500) = true ↔ 500000 ≤ s.stuck.timer.getD 0 := timerAt_getD (by decide)
  simp only [hrun, hpump, ht]

/-- The part `s` with what is derived taken from `d`. -/
def State.written (s d : State) : State := { s with
  permit := { s.permit with hatch := d.permit.hatch, conds := d.permit.conds, ready := d.permit.ready }
  lamps := d.lamps
  bank := d.bank
  stuck := { s.stuck with timer := d.stuck.timer }
  agenda := d.agenda }

/-- What deriving does not write (R46 to R60, R117 to R137). -/
theorem State.derive_rest : s.derive = { s with
    permit := { s.permit with
      hatch := s.derive.permit.hatch, conds := s.derive.permit.conds, ready := s.derive.permit.ready }
    lamps := s.derive.lamps
    bank := s.derive.bank
    stuck := { s.stuck with timer := s.derive.stuck.timer }
    agenda := s.derive.agenda } := by
  generalize hd : s.derive = d
  have h1 : ∀ v : State, v.deriveHatches.written d = v.written d := fun _ => rfl
  have h2 : ∀ v : State, v.deriveConds.written d = v.written d := fun _ => rfl
  have h3 : ∀ v : State, v.deriveLamps.written d = v.written d := fun _ => rfl
  have h4 : ∀ v : State, v.deriveReady.written d = v.written d := fun _ => rfl
  have h5 : ∀ v : State, v.deriveRequests.written d = v.written d := fun _ => rfl
  have h6 : ∀ v : State, v.deriveChannels.written d = v.written d := fun _ => rfl
  have h7 : ∀ v : State, v.deriveStuck.written d = v.written d := fun _ => rfl
  have hself : d.written d = d := rfl
  have hderive : d.written d = s.written d := by
    conv_lhs => arg 1; rw [← hd]
    rw [State.derive, h7, h6, h5, h4, h3, h2, h1]
  exact hself.symm.trans hderive

/-! ### What deriving hands on -/

theorem State.derive_agenda : s.derive.agenda = s.agenda
    ++ ((Hatch.all.filter fun h => decide (s.hatchNow h ≠ s.hatchPos h)).flatMap s.hatchChange
      ++ (s.deriveHatches.condChanges ++ s.beforeReady.readyChanges)) := by
  have h : s.derive.agenda = ((s.agenda
      ++ (Hatch.all.filter fun h => decide (s.hatchNow h ≠ s.hatchPos h)).flatMap s.hatchChange)
      ++ s.deriveHatches.condChanges) ++ s.beforeReady.readyChanges := rfl
  rw [h, List.append_assoc, List.append_assoc]

theorem Hatch.mem_all (h : Hatch) : h ∈ Hatch.all := by cases h <;> decide

theorem Cond.mem_all (c : Cond) : c ∈ Cond.all := by cases c <;> decide

theorem State.mem_hatchChanges {x : Arrival} :
    x ∈ (Hatch.all.filter fun h => decide (s.hatchNow h ≠ s.hatchPos h)).flatMap s.hatchChange ↔
      ∃ h, s.derive.hatchPos h ≠ s.hatchPos h ∧ (x = .hatchMoved h ∨ (x = .movement ∧ s.hatchPos h = .shut)) := by
  have hchange : ∀ h, x ∈ s.hatchChange h ↔ x = .hatchMoved h ∨ (x = .movement ∧ s.hatchPos h = .shut) := fun h => by
    unfold State.hatchChange
    split <;> simp [*]
  simp only [List.mem_flatMap, List.mem_filter, hchange, decide_eq_true_eq, State.derive_hatchPos]
  exact exists_congr fun h => and_congr_left fun _ => and_iff_right (Hatch.mem_all h)

theorem State.mem_condChanges {x : Arrival} :
    x ∈ s.deriveHatches.condChanges ↔ ∃ c, s.derive.cond c ≠ s.cond c ∧ x = .condition c (s.derive.cond c) := by
  have hnow : ∀ c, s.deriveHatches.condsNow.has c = s.derive.cond c := fun c => rfl
  have hbefore : ∀ c, s.deriveHatches.cond c = s.cond c := fun c => rfl
  unfold State.condChanges
  simp only [List.mem_map, List.mem_filter, hnow, hbefore, bne_iff_ne]
  constructor
  · rintro ⟨c, ⟨-, hc⟩, rfl⟩; exact ⟨c, hc, rfl⟩
  · rintro ⟨c, hc, rfl⟩; exact ⟨c, ⟨Cond.mem_all c, hc⟩, rfl⟩

theorem State.mem_readyChanges {x : Arrival} : x ∈ s.beforeReady.readyChanges ↔
    ∃ a k, s.derive.ready a k ≠ s.ready a k ∧ x = .readiness a k (s.derive.notReadyCause a k) := by
  have hnow : ∀ a k, s.beforeReady.readyNow.get (strokeIx a k) = s.derive.ready a k := fun a k => rfl
  have hbefore : ∀ a k, s.beforeReady.ready a k = s.ready a k := fun a k => rfl
  unfold State.readyChanges
  simp only [List.mem_map, List.mem_filter, hnow, hbefore, bne_iff_ne, Prod.exists, State.beforeReady_notReadyCause]
  constructor
  · rintro ⟨a, k, ⟨-, h⟩, rfl⟩; exact ⟨a, k, h, rfl⟩
  · rintro ⟨a, k, h, rfl⟩; exact ⟨a, k, ⟨mem_allStrokes a k, h⟩, rfl⟩

theorem State.derive_ready_of_changed (h : s.derive.ready a k ≠ s.ready a k) :
    s.derive.ready a k = (s.derive.notReadyCause a k).isNone := by
  by_cases hd : s.device.state = .dormant
  · exact absurd (congrArg (fun r : Table Bool 8 => r.get (strokeIx a k)) (if_pos hd)) h
  · rw [State.ready, State.derive_ready, State.readyNow_get (s := s.beforeReady) hd, State.beforeReady_notReadyCause]

theorem State.derive_changesHandedOn : s.ChangesHandedOn s.derive := by
  refine ⟨_, State.derive_agenda, fun h => ?_, ?_, fun c v => ?_, fun a k => ?_, fun a k hx => ?_, fun a k cause hx => ?_,
    fun x hx => ?_⟩
  all_goals simp only [List.mem_append, State.mem_hatchChanges, State.mem_condChanges, State.mem_readyChanges] at *
  · simp [eq_comm]
  · simp only [true_and, reduceCtorEq, false_or, and_false, exists_false, or_false]
    refine exists_congr fun h => ?_
    constructor
    · rintro ⟨hne, hs⟩; exact ⟨hs, by rwa [← hs]⟩
    · rintro ⟨hs, hne⟩; exact ⟨by rwa [hs], hs⟩
  · simp only [reduceCtorEq, false_and, or_false, and_false, exists_false, false_or, Arrival.condition.injEq]
    constructor
    · rintro ⟨d, hne, rfl, rfl⟩; exact ⟨rfl, hne.symm⟩
    · rintro ⟨rfl, hne⟩; exact ⟨c, hne.symm, rfl, rfl⟩
  · simp
  · simp only [reduceCtorEq, false_and, or_false, and_false, exists_false, false_or, Arrival.readiness.injEq] at hx
    obtain ⟨b, j, hne, rfl, rfl, hcause⟩ := hx
    rw [State.derive_ready_of_changed hne, ← hcause]; rfl
  · simp only [reduceCtorEq, false_and, or_false, and_false, exists_false, false_or, Arrival.readiness.injEq] at hx
    obtain ⟨b, j, hne, rfl, rfl, hcause⟩ := hx
    refine ⟨?_, State.notReadyCause_stands hcause.symm⟩
    rw [State.derive_ready_of_changed hne, ← hcause]; rfl
  · obtain ⟨h, -, rfl | ⟨rfl, -⟩⟩ | ⟨c, -, rfl⟩ | ⟨a, k, -, rfl⟩ := hx
    · exact .inr (.inl ⟨h, rfl⟩)
    · exact .inl rfl
    · exact .inr (.inr (.inl ⟨_, _, rfl⟩))
    · exact .inr (.inr (.inr ⟨_, _, _, rfl⟩))

/-- Settles O4: each stage of `derive` follows its sources, and `settle` takes the arrivals in the agenda's order. -/
theorem derivingSettles : Obligations.DerivingSettles := by
  unfold Obligations.DerivingSettles
  refine ⟨fun s => ⟨s.derive_derive, State.derive_hatchesFollow, State.derive_conditionsFollow, State.derive_readinessFollows,
    State.lampsFollow_of_lampNow State.derive_lamp, State.derive_requestsFollow,
    State.channelsFollow_of_take State.derive_chan, State.derive_stuckWatchFollows, State.derive_changesHandedOn, State.derive_rest⟩,
    fun s => rfl, fun s n => ⟨fun h => ?_, fun x rest h => ?_⟩⟩
  · cases n with
    | zero => rfl
    | succ n => unfold State.settle; rw [h]
  · dsimp only
    conv_lhs => unfold State.settle
    rw [h]
    rfl

end Sys2Proof.Machine

/-! O1 to O3: a step takes the command at the queue's front, an empty queue lets the clock tick, and what does not come. -/

namespace Sys2Proof.Machine

variable {s t : State}

/-- Settles O1: by the definition of `step`. -/
theorem stepTakesFront : Obligations.StepTakesFront := by
  unfold Obligations.StepTakesFront
  intro c rest s
  rfl

/-! ### The tick -/

/-- Whether an event is due does not hang on the queue. -/
theorem State.isDue_setPending (s : State) (p : List Instr) (c : Instr) : State.isDue { s with pending := p } c = s.isDue c := by
  cases c <;> rfl

theorem staysDue_iff {c : Instr} : staysDue c = true ↔
    c = .stuckWatchExpiry ∨ c = .dormancyTimerExpiry ∨ ∃ n, c = .leadReached n := by
  cases c <;> simp [staysDue]

theorem State.mem_comesDue {c : Instr} : c ∈ s.comesDue t ↔ c ∈ timerEvents ∧ t.isDue c = true
    ∧ ((c = .stuckWatchExpiry ∨ c = .dormancyTimerExpiry ∨ ∃ n, c = .leadReached n) → s.isDue c = false) := by
  rw [← staysDue_iff]
  simp [State.comesDue, imp_iff_not_or]

theorem State.tick_eq (hp : s.pending = []) (hr : s.pins.resetbLow = false) :
    s.tick = { s.advance with pending := s.comesDue s.advance } := by
  rw [State.tick, if_neg (by simp [hr]), hp]; rfl

theorem State.link_advance (l : Link) : s.advance.link l = (s.link l).tick := Table.get_map _ _ _

theorem actuatorOfIx_ix (a : Actuator) : actuatorOfIx a.ix = a := by cases a <;> rfl

theorem State.prime_advance (a : Actuator) : s.advance.prime a = (s.prime a).tick s.primeLimit := Table.get_map _ _ _

theorem State.input_advance (i : Input) : s.advance.input i = (s.input i).tick (stabilityLimit i) := by
  have h : s.advance.input i = (s.input i).tick (stabilityLimit (Input.ofIx i.ix)) := Table.get_ofFn _ _
  rw [h]
  cases i <;> rfl

theorem State.capture_advance (m : Sensor) : s.advance.capture m = (s.capture m).tick := Table.get_map _ _ _

theorem State.lamp_advance (n : Lamp) : s.advance.lamp n = (s.lamp n).tick (s.phaseDuration n) (s.trailInForce n) :=
  Table.get_ofFn _ _

theorem State.chan_advance (c : Chan) : s.advance.chan c = (s.chan c).tick := Table.get_map _ _ _

/-- A tick moves the timers of a slot and nothing else of it. -/
theorem Slot.tick_rest {r v : Slot} {window limit : Nat} (hv : v = r.tick window limit) :
    v = { r with
      holders := v.holders, watch := v.watch, runTimer := v.runTimer
      holdTimer := r.holdTimer.map fun t => if t < 5000000 then t + 1 else t
      runDown := r.runDown.map fun t => if t < 100000 then t + 1 else t } := by
  subst hv; rfl

/-- The run timer counts below the run limit in RUNNING, and stands otherwise (R13). -/
theorem State.runTimer_advance (a : Actuator) :
    (∀ k, (s.slot a).state = .running → (s.slot a).stroke = some k → (s.slot a).runTimer < s.runLimit a k →
        (s.advance.slot a).runTimer = (s.slot a).runTimer + 1)
      ∧ (¬((s.slot a).state = .running ∧ ∃ k, (s.slot a).stroke = some k ∧ (s.slot a).runTimer < s.runLimit a k) →
        (s.advance.slot a).runTimer = (s.slot a).runTimer) := by
  have hslot : (s.advance.slot a).runTimer = if decide ((s.slot a).state = .running)
      && decide ((s.slot a).runTimer < s.limitInHand a) then (s.slot a).runTimer + 1 else (s.slot a).runTimer := by
    rw [State.slot_advance, actuatorOfIx_ix]; rfl
  rw [hslot]
  refine ⟨fun k hs hk hlt => ?_, fun h => ?_⟩
  · have hlimit : s.limitInHand a = s.runLimit a k := by unfold State.limitInHand; rw [hk]
    rw [hlimit, if_pos (by simp [hs, hlt])]
  · refine if_neg fun hc => h ?_
    simp only [Bool.and_eq_true, decide_eq_true_eq] at hc
    obtain ⟨hs, hlt⟩ := hc
    refine ⟨hs, ?_⟩
    unfold State.limitInHand at hlt
    split at hlt
    · next k hk => exact ⟨k, hk, hlt⟩
    · exact absurd hlt (Nat.not_lt_zero _)

/-- Settles O2: the tick is `advance`, record by record, with the events that come due in the queue. -/
theorem emptyQueueTicks : Obligations.EmptyQueueTicks := by
  unfold Obligations.EmptyQueueTicks
  intro s hp hr run window
  have hstep : step s = .next s.tick := by unfold step; rw [hp]
  have hwindow : s.refreshWindow = window := by simp only [State.refreshWindow, ms, window]; omega
  have hprime : s.primeLimit = 1000 * s.tables.timing.primeLimit := by simp only [State.primeLimit, ms]; omega
  have hdelay : s.dormancyDelay = 60000000 * s.tables.timing.dormancy := by simp only [State.dormancyDelay, ms]; omega
  have hlimit : ∀ a k, s.runLimit a k = 1000000 * (s.policy a k).runLimit := fun a k => by
    simp only [State.runLimit, ms]; omega
  have htrail : ∀ n, s.trailInForce n = 1000 * max (s.lampCfg n).trail s.tables.timing.trailBase := fun n => by
    simp only [State.trailInForce, ms]; omega
  refine ⟨s.tick, hstep, ?_⟩
  rw [State.tick_eq hp hr]
  refine ⟨rfl, fun c => ?_, fun l => State.link_advance l, fun a => ⟨?_, fun l => ?_, fun k => ?_, ?_⟩, fun a => ?_, rfl, rfl,
    fun i => ?_, rfl, fun m => State.capture_advance m, fun c => ?_, fun n => ?_, fun c => State.chan_advance c, rfl, ?_,
    rfl, rfl, rfl, rfl, rfl, rfl, rfl⟩
  · rw [State.isDue_setPending]; exact State.mem_comesDue
  · exact Slot.tick_rest (State.slot_advance a)
  · have h : s.advance.slot a = _ := State.slot_advance a
    change (s.advance.slot a).holders.get l = _ ∧ (s.advance.slot a).watch.get l = _
    rw [h, ← hwindow]
    exact ⟨Table.get_map _ _ _, Table.get_map _ _ _⟩
  · rw [← hlimit]; exact (State.runTimer_advance a).1 k
  · simp only [← hlimit]; exact (State.runTimer_advance a).2
  · change (∀ v, s.prime a = .running v → s.advance.prime a = _) ∧ (_ → s.advance.prime a = _)
    rw [State.prime_advance, ← hprime]
    refine ⟨fun v hv => by rw [hv]; rfl, fun hno => ?_⟩
    cases h : s.prime a with
    | running v => exact absurd h (hno v)
    | stopped => rfl
    | passed => rfl
  · refine (State.input_advance i).trans ?_
    unfold stabilityLimit
    by_cases hi : i = .speed
    · subst hi; rfl
    · rw [if_neg hi, if_neg hi]; rfl
  · rw [← hwindow]; exact State.context_advance c
  · rw [← htrail]; exact State.lamp_advance n
  · rw [← hdelay]; rfl

/-! ### What does not come -/

theorem State.serve_inReset {l : Link} {code tag : Byte} {who : Permission} {inStartup : Bool} {rule : State → Answer}
    (hr : s.pins.resetbLow = true) : s.serve l code tag who inStartup rule = s := by
  have hlost : s.takesFrame l = false := by simp [State.takesFrame, hr]
  rw [State.serve_lost hlost, State.losesFrame, if_pos hr]

/-- The lines are deaf while RESETB is low (log 23). -/
theorem State.onLine_inReset (hr : s.pins.resetbLow = true) (l : Link) (effect : State → State) : s.onLine l effect = s := by
  unfold State.onLine; exact if_pos hr

theorem exec_outside_inReset {c : Instr} (hr : s.pins.resetbLow = true) (hpower : c ≠ .powerOnReset)
    (hrelease : c ≠ .resetbRelease) (hpin : ∀ p d, c ≠ .pinLevelChange p d) (hrequest : c.request? = none)
    (hevent : s.eventOf c = none) : exec c s = .next s := by
  cases c <;> cases hrequest <;> cases hevent
  case frameDiscarded l cs =>
    change Host.Outcome.next _ = _
    rw [State.onLine_inReset hr, ite_self]
  case framingError l =>
    change Host.Outcome.next _ = _
    rw [State.onLine_inReset hr]
  case powerOnReset => exact absurd rfl hpower
  case pinReset =>
    change Host.Outcome.next _ = _
    rw [State.pinReset, if_pos hr]
  case pinLevelChange p d => exact absurd rfl (hpin p d)
  case resetbRelease => exact absurd rfl hrelease

/-- Nothing but the supply's return, the release and a pin changes the part while RESETB is low. -/
theorem exec_inReset {c : Instr} (hr : s.pins.resetbLow = true) (hpower : c ≠ .powerOnReset) (hrelease : c ≠ .resetbRelease)
    (hpin : ∀ p d, c ≠ .pinLevelChange p d) : exec c s = .next s := by
  cases hrequest : c.request? with
  | some r =>
    obtain ⟨rule, -, hserve⟩ := exec_request hrequest
    rw [hserve, State.serve_inReset hr]
  | none =>
    cases hevent : s.eventOf c with
    | some bu => rw [exec_event (b := bu.1) (u := bu.2) hevent, hr]; rfl
    | none => exact exec_outside_inReset hr hpower hrelease hpin hrequest hevent

/-- The kinds of timer event. -/
def isTimerEvent : Instr → Bool
  | .gapTimerExpiry _ | .holderLapse _ _ | .watchLapse _ _ | .runLimitExpiry _ | .holdTimerExpiry _ | .runDownEnd _
  | .profileUpdate | .overloadExpiry | .primeLimit _ | .stuckWatchExpiry | .debounceSettle _ | .speedEdge | .quietTimerExpiry
  | .lostExpiry _ | .startupEnd | .ownerLapse | .dormancyTimerExpiry | .wakeIgn | .wakeDriveEnd | .phaseTimerExpiry _
  | .trailTimerExpiry _ | .leadReached _ | .pwmPeriodStart _ | .stepTimerExpiry _ | .sequenceLapse _ | .pauseTimerExpiry _ => true
  | _ => false

theorem isTimerEvent_of_mem {c : Instr} (hc : c ∈ timerEvents) : isTimerEvent c = true :=
  List.all_eq_true.mp (by decide : timerEvents.all isTimerEvent = true) c hc

/-- A timer event that is not a holder's lapse is an event which comes when it is due. -/
theorem exec_of_not_due {c : Instr} (ht : isTimerEvent c = true) (hl : ∀ a l, c ≠ .holderLapse a l) (hdue : s.isDue c = false) :
    exec c s = .next s := by
  cases c <;> cases ht
  case holderLapse a l => exact absurd rfl (hl a l)
  all_goals
    unfold State.isDue at hdue
    exact exec_event_waits ((congrArg (fun b => some (b, _)) hdue.symm).symm)

/-- Settles O3: `exec` turns back every command in reset, and an event before its time. -/
theorem whatDoesNotCome : Obligations.WhatDoesNotCome := by
  unfold Obligations.WhatDoesNotCome
  refine ⟨fun s c hr hpower hrelease hpin => ⟨exec_inReset hr hpower hrelease hpin, fun hp => ?_⟩, fun s c hc hdue hw => ?_⟩
  · unfold step; rw [hp, State.tick, if_pos hr]
  · by_cases hl : ∃ a l, c = .holderLapse a l
    · obtain ⟨a, l, rfl⟩ := hl
      have hheld : s.holderDue a l = false := hdue
      have hwatched : s.watchDue a l = false := hw a l rfl
      exact exec_event_waits (u := s.lapseHolder a l) (by
        change some (s.holderDue a l || s.watchDue a l, _) = _
        rw [hheld, hwatched]; rfl)
    · exact exec_of_not_due (isTimerEvent_of_mem hc) (fun a l h => hl ⟨a, l, h⟩) hdue

end Sys2Proof.Machine

/-! O7, O8 and O11: requests on the line. A request that is taken is answered by its rule; one of a wrong role or in STARTUP is
refused; one that is not taken is lost. -/

namespace Sys2Proof.Machine

variable {s : State} {c : Instr} {r : RequestRow} {rule : State → Answer} {a : Answer}

/-! ### Serving a request of the table -/

/-- A request that its role and the device state permit is answered by its rule. -/
theorem exec_answered {t : State} (hc : c.request? = some r) (hrule : ruleOf c = some rule) (hadm : s.admits r.link r.who)
    (hs : s.device.state ≠ .startup ∨ r.inStartup = true) (ha : rule (s.withFrame r.link) = a)
    (ht : a.state.replied r.link r.code r.tag a.result a.data a.restarts = t) : exec c s = .next t := by
  obtain ⟨rule', hrule', hserve⟩ := exec_request hc
  rw [hrule] at hrule'
  obtain rfl := Option.some.inj hrule'
  rw [hserve, State.serve_taken hadm hs, ha, ← ht]
  rfl

/-- A request of a role that may not make it is answered REFUSED_ROLE. -/
theorem exec_refusedRole (hc : c.request? = some r) (htakes : s.takesFrame r.link = true)
    (hwho : r.who.allows (s.link r.link).role = false) :
    exec c s = .next ((s.withFrame r.link).replied r.link r.code r.tag .refusedRole []) := by
  obtain ⟨rule, -, hserve⟩ := exec_request hc
  rw [hserve, State.serve_refusedRole htakes hwho]

/-- A permitted request that STARTUP does not serve is answered REFUSED_STATE. -/
theorem exec_inStartup (hc : c.request? = some r) (hadm : s.admits r.link r.who) (hs : s.device.state = .startup)
    (hin : r.inStartup = false) : exec c s = .next ((s.withFrame r.link).replied r.link r.code r.tag .refusedState []) := by
  obtain ⟨rule, -, hserve⟩ := exec_request hc
  rw [hserve, hin, State.serve_startup hadm hs]

/-- A request that its rule refuses in every state but STARTUP is answered REFUSED_STATE there and here. -/
theorem exec_refusedState {t : State} (hc : c.request? = some r) (hrule : ruleOf c = some rule) (hadm : s.admits r.link r.who)
    (hin : r.inStartup = false) (ha : rule (s.withFrame r.link) = (s.withFrame r.link).answer .refusedState)
    (ht : (s.withFrame r.link).replied r.link r.code r.tag .refusedState [] = t) : exec c s = .next t := by
  by_cases hs : s.device.state = .startup
  · rw [exec_inStartup hc hadm hs hin, ht]
  · exact exec_answered hc hrule hadm (.inl hs) ha ht

/-- A request whose frame is not taken is lost. -/
theorem exec_lost (hc : c.request? = some r) (htakes : s.takesFrame r.link = false) : exec c s = .next (s.losesFrame r.link) := by
  obtain ⟨rule, -, hserve⟩ := exec_request hc
  rw [hserve, State.serve_lost htakes]

/-- Settles O8: the role is looked at first, then STARTUP. -/
theorem requestsAreChecked : Obligations.RequestsAreChecked := by
  unfold Obligations.RequestsAreChecked
  intro s c r hc htakes
  exact ⟨exec_refusedRole hc htakes, fun hwho hs hin => exec_inStartup hc ⟨htakes, hwho⟩ hs hin⟩

/-! ### The arrival of a frame -/

theorem State.withFrame_device (l : Link) : (s.withFrame l).device = { s.device with
    dormancy := s.device.dormancy.map fun _ => 0
    ownerIdle := if s.device.state = .config ∧ s.device.owner = some l then some 0 else s.device.ownerIdle } := by
  simp [State.withFrame, Device.validFrame]

theorem LinkRec.dropRestarts_of_waiting {k : LinkRec} {w : Reply} (h : k.waiting = some w) :
    k.dropRestarts = w.restarts := by
  rw [LinkRec.dropRestarts, h]; rfl

/-- Settles O7: a frame is taken on a link with a role, in a part that is awake, with no RESTART reply to drop; the first of
these that fails says how it is lost. -/
theorem framesTakenAndLost : Obligations.FramesTakenAndLost := by
  unfold Obligations.FramesTakenAndLost
  refine ⟨fun s l => ⟨State.link_withFrame_self s l, fun m hm => State.link_withFrame_ne s hm, State.withFrame_device l, rfl⟩,
    fun s c r hc hr => ⟨fun hrole => ?_, fun hrole hd => ?_, fun hrole hd w hw hrestarts => ?_⟩⟩
  · rw [exec_lost hc (by simp [State.takesFrame, hrole]), State.losesFrame, if_neg (by simp [hr]), if_pos hrole]
  · rw [exec_lost hc (by simp [State.takesFrame, hd]), State.losesFrame, if_neg (by simp [hr]), if_neg hrole, if_pos hd]
  · have hdrops : (s.link r.link).dropRestarts = true := (LinkRec.dropRestarts_of_waiting hw).trans hrestarts
    rw [exec_lost hc (by simp [State.takesFrame, hdrops]), State.losesFrame, if_neg (by simp [hr]), if_neg hrole, if_neg hd]

/-! ### The line -/

theorem State.onLine_comes {l : Link} {effect : State → State} (hr : s.pins.resetbLow = false) (hd : s.device.state ≠ .dormant) :
    s.onLine l effect = effect s := by
  unfold State.onLine
  rw [if_neg (by simp [hr]), if_neg]
  simp [hd]

/-- An event whose condition holds comes. -/
theorem exec_event_due {u : State} {b : Bool} (hc : s.eventOf c = some (b, u)) (hb : b = true) (hr : s.pins.resetbLow = false) :
    exec c s = .next u.finishEvent :=
  exec_event_comes (hb ▸ hc) hr

/-- Settles O11: each line event is its effect on the link's record. -/
theorem lineEvents : Obligations.LineEvents := by
  unfold Obligations.LineEvents
  intro s l hr hd
  refine ⟨fun cs hcs rx hrx => ?_, ?_, fun v hv hlimit => ?_, fun w hw hsending => ?_, fun w hw hrestarts => ?_,
    fun w hw hrestarts => ?_⟩
  · subst hrx
    change Host.Outcome.next _ = _
    rw [if_neg (by simp [hcs]), State.onLine_comes hr hd]
    rfl
  · change Host.Outcome.next _ = _
    rw [State.onLine_comes hr hd]
    rfl
  · have hdue : s.gapDue l = true := timerAt_some hv hlimit
    exact exec_event_due rfl hdue hr
  · have hcomes : (s.link l).waiting.isSome = true := by rw [hw]; rfl
    rw [exec_event_due (c := .replyStart l) rfl hcomes hr,
      LinkRec.startReply, if_pos (by simp [hsending]), hw]
  · have hcomes : (s.link l).sending.isSome = true := by rw [hw]; rfl
    rw [exec_event_due (c := .replySent l) rfl hcomes hr, State.replySent, if_neg (by simp [hw, hrestarts])]
    rfl
  · have hcomes : (s.link l).waiting.isSome = true := by rw [hw]; rfl
    rw [exec_event_due (c := .replyDropped l) rfl hcomes hr, State.replyDropped,
      if_neg (by simp [LinkRec.dropRestarts_of_waiting hw, hrestarts])]

end Sys2Proof.Machine

/-! O10: what the bytes of a STATUS record show, and the requests that only read the part. -/

namespace Sys2Proof.Machine

variable {s : State}

/-! ### Flags and numbers in bytes -/

/-- Bit `i` of a row of flags is flag `i`. -/
theorem flagsToNat_testBit : ∀ (bs : List Bool) (i : Nat), (flagsToNat bs).testBit i = bs.getD i false
  | [], i => by simp [flagsToNat]
  | b :: bs, 0 => by cases b <;> simp [flagsToNat, Nat.testBit_zero]
  | b :: bs, i + 1 => by
    have hhalf : (b.toNat + 2 * flagsToNat bs) / 2 = flagsToNat bs := by cases b <;> simp; omega
    rw [flagsToNat, Nat.testBit_succ, hhalf, flagsToNat_testBit bs i, List.getD_cons_succ]

theorem flagsToNat_lt : ∀ bs : List Bool, flagsToNat bs < 2 ^ bs.length
  | [] => by simp [flagsToNat]
  | b :: bs => by
    have h := flagsToNat_lt bs
    rw [flagsToNat, List.length_cons, Nat.pow_succ]
    cases b <;> simp <;> omega

/-- A byte of at most eight flags shows them. -/
theorem byteOfFlags_testBit {bs : List Bool} (h : bs.length ≤ 8) (i : Nat) :
    ((byte (flagsToNat bs)).toNat).testBit i = bs.getD i false := by
  have hlt : flagsToNat bs < 256 := (flagsToNat_lt bs).trans_le (Nat.pow_le_pow_right (by decide) h)
  rw [byte_toNat hlt, flagsToNat_testBit]

/-- The flags of a table's cells. -/
theorem Table.getD_cells_map {α : Type} {n : Nat} (t : Table α n) (f : α → Bool) (i : Fin n) :
    (t.cells.map f).getD i.val false = f (t.get i) := by
  have hi : i.val < t.cells.length := by have := t.size; omega
  simp [Table.get, List.getElem?_eq_getElem hi]

theorem toNat_byte (n : Nat) : (byte n).toNat = n % 256 := by simp [byte, BitVec.toNat_ofNat]

theorem slotByte_toNat (a : Option Actuator) : (slotByte a).toNat = codeOrNone a := by
  rcases a with _ | (_ | _ | _ | _) <;> rfl

theorem byteOfIndex_toNat {n : Nat} (hn : n ≤ 256) (i : Option (Fin n)) :
    (byteOfIndex i).toNat = match i with | some k => k.val | none => 0xFF := by
  cases i with
  | none => rfl
  | some k => exact byte_toNat (k.isLt.trans_le hn)

/-! ### A slot and a context in the record -/

theorem Slot.linkFlags_length (r : Slot) : r.linkFlags.length = 4 := by
  have hh := r.holders.size
  have hw := r.watch.size
  unfold Slot.linkFlags
  split <;> simp [hh, hw]

theorem Slot.linkFlags_getD (r : Slot) (l : Link) : r.linkFlags.getD l.val false = true ↔
    (r.state ∈ [SlotState.waiting, .priming, .running, .holding] ∧ r.holders.get l ≠ none)
      ∨ ((r.state = .settling ∨ r.state = .blocked) ∧ r.watch.get l ≠ none) := by
  unfold Slot.linkFlags
  cases r.state
  case idle => fin_cases l <;> simp [List.replicate]
  case waiting | priming | running | holding =>
    simp [Table.getD_cells_map r.holders, Option.isSome_iff_ne_none, -List.getD_eq_getElem?_getD]
  case settling | blocked =>
    simp [Table.getD_cells_map r.watch, Option.isSome_iff_ne_none, -List.getD_eq_getElem?_getD]

theorem Slot.flags_ofLink (r : Slot) (l : Link) :
    (r.linkFlags ++ r.contextFlags).getD l.val false = r.linkFlags.getD l.val false :=
  List.getD_append _ _ _ _ (by rw [Slot.linkFlags_length]; exact l.isLt)

theorem Slot.flags_ofContext (r : Slot) (c : Ctx) :
    (r.linkFlags ++ r.contextFlags).getD (4 + c.val) false = decide (r.reportTo = some c) := by
  rw [List.getD_append_right _ _ _ _ (by rw [Slot.linkFlags_length]; omega), Slot.linkFlags_length]
  obtain rfl | rfl := Ctx.eq_zero_or_one c <;> rfl

/-- The seven bytes of a slot show it. -/
theorem State.slotShown_of {bs : List Nat} {a : Actuator} {first : Nat}
    (h : ∀ i, i < 7 → bs.getD (first + i) 0 = ((s.slotBytes a).getD i 0).toNat) : s.SlotShown bs a first := by
  have hflags : bs.getD (first + 2) 0 = (byte (flagsToNat ((s.slot a).linkFlags ++ (s.slot a).contextFlags))).toNat :=
    h 2 (by decide)
  have hlength : ((s.slot a).linkFlags ++ (s.slot a).contextFlags).length ≤ 8 := by
    rw [List.length_append, Slot.linkFlags_length]; exact Nat.le_of_ble_eq_true rfl
  have hhigh : bs.getD (first + 4) 0 = s.positionOf a / 256 % 256 := (h 4 (by decide)).trans (toNat_byte _)
  have hlow : bs.getD (first + 5) 0 = s.positionOf a % 256 := (h 5 (by decide)).trans (toNat_byte _)
  have hposition : 256 * bs.getD (first + 4) 0 + bs.getD (first + 5) 0 = s.positionOf a % 65536 := by
    rw [hhigh, hlow]; omega
  refine ⟨(h 0 (by decide)).trans ?_, (h 1 (by decide)).trans ?_, fun l => ?_, fun c => ?_, (h 3 (by decide)).trans ?_, ?_,
    (h 6 (by decide)).trans ?_⟩
  · change (byte (s.slot a).state.code).toNat = _
    cases (s.slot a).state <;> rfl
  · change (s.slot a).strokeByte.toNat = _
    unfold Slot.strokeByte
    rcases (s.slot a).stroke with _ | (_ | _) <;> rfl
  · rw [hflags, byteOfFlags_testBit hlength, Slot.flags_ofLink, Slot.linkFlags_getD]
  · rw [hflags, byteOfFlags_testBit hlength, Slot.flags_ofContext, decide_eq_true_eq]
  · change (s.slot a).ownerByte.toNat = _
    unfold Slot.ownerByte
    rcases (s.slot a).owner with _ | (l | c)
    · rfl
    · exact byte_toNat (by omega)
    · exact byte_toNat (by omega)
  · cases a
    case lift => exact hposition
    case tilt => exact hposition
    case khatch =>
      refine hposition.trans ?_
      change (s.hatchPos .kerbside).code % 65536 = _
      cases s.hatchPos .kerbside <;> rfl
    case ohatch =>
      refine hposition.trans ?_
      change (s.hatchPos .offside).code % 65536 = _
      cases s.hatchPos .offside <;> rfl
  · change (byte (s.slot a).outcome.code).toNat = _
    cases (s.slot a).outcome <;> rfl

/-- The three bytes of a context show it. -/
theorem State.contextShown_of {bs : List Nat} {c : Ctx} {first : Nat}
    (h : ∀ i, i < 3 → bs.getD (first + i) 0 = ((s.context c).bytes.getD i 0).toNat) : s.ContextShown bs c first := by
  have hstate : bs.getD first 0 = (byte ((s.context c).state.code + 16 * (s.context c).result.code)).toNat := h 0 (by decide)
  refine ⟨?_, ?_, (h 1 (by decide)).trans ?_, (h 2 (by decide)).trans ?_⟩
  · rw [hstate]
    cases (s.context c).state <;> cases (s.context c).result <;> rfl
  · rw [hstate]
    cases (s.context c).state <;> cases (s.context c).result <;> rfl
  · change (byteOfIndex (s.context c).sequence).toNat = _
    rw [byteOfIndex_toNat (by decide)]
    cases (s.context c).sequence <;> rfl
  · change (byteOfIndex (s.context c).step).toNat = _
    rw [byteOfIndex_toNat (by decide)]
    cases (s.context c).step <;> rfl

/-! ### The record -/

theorem State.batteryAverage_eq : s.batteryAverage = s.supply.window.sum / s.supply.window.length := by
  unfold State.batteryAverage
  cases s.supply.window <;> rfl

/-- The record's bytes as numbers. -/
def State.shown (s : State) : List Nat := s.statusRecord.map (·.toNat)

theorem State.shown_getD (i : Nat) : s.shown.getD i 0 = (s.statusRecord.getD i 0).toNat := by
  have h := List.getD_map (l := s.statusRecord) (d := 0) (n := i) (fun b : Byte => b.toNat)
  exact h

theorem State.callListBytes_getD {i : Nat} (hi : i < 4) : s.callListBytes.getD i 0 = slotByte s.arbiter.callList[i]? := by
  simp [State.callListBytes, hi]

/-- Two bytes of the record show a number's low sixteen bits. -/
theorem toNat_twoBytes (n : Nat) : 256 * (byte (n / 256)).toNat + (byte n).toNat = n % 65536 := by
  rw [toNat_byte, toNat_byte]; omega

/-- A stretch of the record, byte by byte. -/
theorem State.shown_of_stretch {first size : Nat} {bytes : List Byte} (h : (s.statusRecord.drop first).take size = bytes) (i : Nat)
    (hi : i < size) : s.shown.getD (first + i) 0 = (bytes.getD i 0).toNat := by
  rw [State.shown_getD, ← h]
  simp [hi]

/-- The bytes of the slots stand at 7, 14, 21 and 28. -/
theorem State.shown_slots : s.SlotShown s.shown .lift 7 ∧ s.SlotShown s.shown .tilt 14 ∧ s.SlotShown s.shown .khatch 21
    ∧ s.SlotShown s.shown .ohatch 28 :=
  ⟨State.slotShown_of (State.shown_of_stretch rfl), State.slotShown_of (State.shown_of_stretch rfl),
    State.slotShown_of (State.shown_of_stretch rfl), State.slotShown_of (State.shown_of_stretch rfl)⟩

/-- The bytes of the contexts stand at 42 and 45. -/
theorem State.shown_contexts : s.ContextShown s.shown 0 42 ∧ s.ContextShown s.shown 1 45 :=
  ⟨State.contextShown_of (State.shown_of_stretch rfl), State.contextShown_of (State.shown_of_stretch rfl)⟩

/-- The bytes of the arbiter stand at 35 to 41. -/
theorem State.shown_arbiter : s.shown.getD 35 0 = codeOrNone (s.grant .liftCircuit)
    ∧ s.shown.getD 36 0 = codeOrNone (s.grant .hatchCircuit) ∧ s.shown.getD 37 0 = codeOrNone s.arbiter.pumpOwner
    ∧ ∀ i, i < 4 → s.shown.getD (38 + i) 0 = codeOrNone s.arbiter.callList[i]? := by
  refine ⟨?_, ?_, ?_, fun i hi => ?_⟩
  all_goals rw [State.shown_getD, ← slotByte_toNat]
  · rfl
  · rfl
  · rfl
  · rw [← State.callListBytes_getD hi]
    interval_cases i <;> rfl

theorem State.conds_toNat_lt : s.permit.conds.toNat < 2 ^ 18 := by
  have h := flagsToNat_lt s.permit.conds.cells
  rwa [s.permit.conds.size] at h

theorem State.shown_device : match s.device.state with
    | .startup => s.shown.getD 0 0 = 0 | .unconfigured => s.shown.getD 0 0 = 1 | .config => s.shown.getD 0 0 = 2
    | .ready => s.shown.getD 0 0 = 3 | .stopped => s.shown.getD 0 0 = 4 | .dormant => True := by
  have h : s.shown.getD 0 0 = (byte s.device.state.code).toNat := State.shown_getD 0
  rw [h]
  cases s.device.state
  case dormant => trivial
  all_goals rfl

theorem State.shown_zone : s.shown.getD 1 0 = if s.supply.defined = true then
    (match s.supply.zone with | .normal => 0 | .sag => 1 | .low => 2) else 2 := by
  have h : s.shown.getD 1 0 = (byte s.shownZone.code).toNat := State.shown_getD 1
  rw [h]
  unfold State.shownZone
  split
  · cases s.supply.zone <;> rfl
  · rfl

/-- The conditions are the bits of bytes 4 to 6. -/
theorem State.shown_conds (c : Cond) :
    (65536 * s.shown.getD 4 0 + 256 * s.shown.getD 5 0 + s.shown.getD 6 0).testBit c.ix.val = s.cond c := by
  have h4 : s.shown.getD 4 0 = (byte (s.permit.conds.toNat / 256 / 256)).toNat := State.shown_getD 4
  have h5 : s.shown.getD 5 0 = (byte (s.permit.conds.toNat / 256)).toNat := State.shown_getD 5
  have h6 : s.shown.getD 6 0 = (byte s.permit.conds.toNat).toNat := State.shown_getD 6
  have hsum : 65536 * s.shown.getD 4 0 + 256 * s.shown.getD 5 0 + s.shown.getD 6 0 = s.permit.conds.toNat := by
    have hlt := s.conds_toNat_lt
    rw [h4, h5, h6, toNat_byte, toNat_byte, toNat_byte]; omega
  rw [hsum, CondSet.toNat, flagsToNat_testBit]
  have hcell := Table.getD_cells_map s.permit.conds id c.ix
  rw [List.map_id] at hcell
  exact hcell

/-- A property of the lamps is shown by the bits of a byte. -/
theorem State.lampFlags_testBit (f : LampRec → Bool) (n : Lamp) :
    ((byte (flagsToNat (s.lamps.cells.map f))).toNat).testBit n.val = f (s.lamp n) := by
  rw [byteOfFlags_testBit (by rw [List.length_map, s.lamps.size]; decide)]
  exact Table.getD_cells_map s.lamps f n

theorem State.shown_lamps (n : Lamp) :
    ((s.shown.getD 48 0).testBit n.val = true ↔ (s.lamp n).cls ≠ .none ∧ (s.lamp n).phaseOn = true)
      ∧ ((s.shown.getD 49 0).testBit n.val = true ↔ (s.lamp n).proven = .failed) := by
  have h48 : s.shown.getD 48 0 = (byte (flagsToNat (s.lamps.cells.map LampRec.lit))).toNat := State.shown_getD 48
  have h49 : s.shown.getD 49 0 = (byte (flagsToNat (s.lamps.cells.map fun r => decide (r.proven = .failed)))).toNat :=
    State.shown_getD 49
  rw [h48, h49, State.lampFlags_testBit, State.lampFlags_testBit]
  simp [LampRec.lit]

/-- The count of the fault table and its full flag share a byte. -/
theorem State.shown_faults : s.shown.getD 50 0 % 128 = s.faults.entries.length % 128
    ∧ (s.faults.entries.length < 128 → ((s.shown.getD 50 0).testBit 7 = true ↔ s.faults.full = true)) := by
  have h50 : s.shown.getD 50 0 = (s.faults.entries.length + 128 * s.faults.full.toNat) % 256 :=
    (State.shown_getD 50).trans (toNat_byte _)
  refine ⟨by omega, fun hlength => ?_⟩
  rw [Nat.testBit_eq_decide_div_mod_eq, decide_eq_true_eq]
  cases hfull : s.faults.full <;> simp [hfull] at h50 ⊢ <;> omega

theorem State.shown_numbers :
    256 * s.shown.getD 2 0 + s.shown.getD 3 0 = s.supply.window.sum / s.supply.window.length % 65536
      ∧ 256 * s.shown.getD 51 0 + s.shown.getD 52 0 = (s.capture .pressure).reported % 65536 := by
  refine ⟨?_, ?_⟩
  · have h2 : s.shown.getD 2 0 = (byte (s.batteryAverage / 256)).toNat := State.shown_getD 2
    have h3 : s.shown.getD 3 0 = (byte s.batteryAverage).toNat := State.shown_getD 3
    rw [h2, h3, toNat_twoBytes, State.batteryAverage_eq]
  · have h51 : s.shown.getD 51 0 = (byte ((s.capture .pressure).reported / 256)).toNat := State.shown_getD 51
    have h52 : s.shown.getD 52 0 = (byte (s.capture .pressure).reported).toNat := State.shown_getD 52
    rw [h51, h52, toNat_twoBytes]

/-- The record's bytes show the part, each at its place. -/
theorem State.statusRecord_shows : s.StatusIs s.statusRecord := by
  obtain ⟨hlift, htilt, hkhatch, hohatch⟩ := s.shown_slots
  obtain ⟨hliftGrant, hhatchGrant, hpump, hcalls⟩ := s.shown_arbiter
  exact ⟨rfl, s.shown_device, s.shown_zone, s.shown_numbers.1, s.shown_conds, hlift, htilt, hkhatch, hohatch, hliftGrant,
    hhatchGrant, hpump, hcalls, s.shown_contexts.1, s.shown_contexts.2, fun n => (s.shown_lamps n).1,
    fun n => (s.shown_lamps n).2, s.shown_faults.1, s.shown_faults.2, s.shown_numbers.2⟩

/-! ### The reading requests -/

theorem FaultEntry.bytes_eq (e : FaultEntry) : e.bytes = [byte e.kind.code, byte e.subject.code,
    if e.active then (if e.acked then 3 else 1) else (if e.acked then 2 else 0), byte e.count] := by
  unfold FaultEntry.bytes
  cases e.active <;> cases e.acked <;> rfl

theorem configReadRule_of_record {table index : Byte} {r : Record} (ha : s.awake = true)
    (hr : s.tables.record table index = some r) : configReadRule [table, index] s = s.answerData r.bytes := by
  unfold configReadRule
  rw [if_neg (by simp [ha])]
  simp only [hr]

theorem configReadRule_badParam {ps : List Byte} (ha : s.awake = true)
    (hno : ∀ table index, ps = [table, index] → s.tables.record table index = none) :
    configReadRule ps s = s.answer .badParam := by
  unfold configReadRule
  rw [if_neg (by simp [ha])]
  split
  · next table index => simp only [hno table index rfl]
  · rfl

theorem configReadRule_refusedState {ps : List Byte} (ha : s.awake = false) : configReadRule ps s = s.answer .refusedState :=
  if_pos (by simp [ha])

theorem faultsRule_badParam {ps : List Byte} (h : ps.length ≠ 1) : faultsRule ps s = s.answer .badParam := by
  unfold faultsRule
  split
  · exact absurd rfl h
  · rfl

theorem State.not_startup_of_awake (h : s.awake = true) : s.device.state ≠ .startup := by
  intro hs; simp [State.awake, hs] at h

/-- Settles O10: each request's rule reads the part and answers. -/
theorem readingRequests : Obligations.ReadingRequests := by
  unfold Obligations.ReadingRequests
  intro s l tag hadm
  have hreset : resetCauseRule l [] (s.withFrame l) = ((s.withFrame l).setLink l
      { (s.withFrame l).link l with causes := noCauses }).answerData [byteOfFlags (s.link l).causes] := by
    rw [resetCauseRule, if_pos rfl, LinkRec.causeData, State.link_withFrame_self]
    rfl
  refine ⟨?_, rfl, State.statusRecord_shows, fun code ps => ?_, fun hs n => ?_, FaultEntry.bytes_eq,
    fun hwho ha table index r hr => ?_, ?_, fun ps => ⟨fun hps => ⟨?_, ?_⟩,
    fun hs => exec_inStartup (c := .faults l tag ps) rfl hadm hs rfl, fun hs hlength => ?_,
    fun hwho => ⟨fun ha => ?_, fun ha hno => ?_⟩⟩⟩
  · exact exec_answered rfl rfl hadm (.inr rfl) (if_pos rfl) rfl
  · exact exec_answered rfl rfl hadm (.inr rfl) rfl rfl
  · by_cases hn : n.toNat ≤ 15
    · rw [if_pos hn]
      exact exec_answered rfl rfl hadm (.inl hs) (if_pos hn) rfl
    · rw [if_neg hn]
      exact exec_answered rfl rfl hadm (.inl hs) (if_neg hn) rfl
  · exact exec_answered rfl rfl ⟨hadm.1, hwho⟩ (.inl (State.not_startup_of_awake ha))
      (configReadRule_of_record (s := s.withFrame l) ha hr) rfl
  · exact exec_answered rfl rfl hadm (.inr rfl) hreset rfl
  · exact exec_answered rfl rfl hadm (.inr rfl) (if_neg hps) rfl
  · exact exec_answered rfl rfl hadm (.inr rfl) (if_neg hps) rfl
  · exact exec_answered rfl rfl hadm (.inl hs) (faultsRule_badParam hlength) rfl
  · exact exec_refusedState rfl rfl ⟨hadm.1, hwho⟩ rfl (configReadRule_refusedState (s := s.withFrame l) ha) rfl
  · exact exec_answered rfl rfl ⟨hadm.1, hwho⟩ (.inl (State.not_startup_of_awake ha))
      (configReadRule_badParam (s := s.withFrame l) ha hno) rfl

end Sys2Proof.Machine

/-! O12 to O14: the resets. Each is the blocks' reset, and then the latching of the straps. -/

namespace Sys2Proof.Machine

variable {s : State}

/-! ### The links after a reset -/

/-- The links of a reset that ends as it comes: the roles of the straps, the causes with the reset's kind. -/
theorem State.resetPart_links (k : ResetKind) : (s.resetPart k).links = Table.ofFn fun m =>
    resetLink (rolePlan s.pins.strap1 s.pins.strap0 m) (addCause k (s.link m).causes) := by
  refine Table.ext_get fun m => ?_
  change (Table.ofFn fun l => ({ (s.resetBlocks k).links.get l with role := rolePlan s.pins.strap1 s.pins.strap0 l } : LinkRec)).get m
    = _
  rw [Table.get_ofFn, Table.get_ofFn]
  change ({ (s.links.map fun r => resetLink r.role (addCause k r.causes)).get m with
    role := rolePlan s.pins.strap1 s.pins.strap0 m } : LinkRec) = _
  rw [Table.get_map]
  rfl

/-- The part after a reset that ends as it comes. -/
theorem State.resetPart_eq (k : ResetKind) : s.resetPart k = { State.reset with
    pins := s.pins
    links := Table.ofFn fun m => resetLink (rolePlan s.pins.strap1 s.pins.strap0 m) (addCause k (s.link m).causes)
    inputs := Table.ofFn fun i =>
      ⟨(s.inputs.get i).drive, pinLevel (s.inputs.get i).drive (defaultInput (Input.ofIx i)).bias (Config.floatingLevel s.draws),
        none, some 0⟩
    draws := s.draws + 1
    pending := s.pending } := by
  rw [← State.resetPart_links]
  rfl

/-- Settles O12: a POWER-ON reset leaves POWER-ON alone among the causes. -/
theorem powerOnResets : Obligations.PowerOnResets := by
  unfold Obligations.PowerOnResets
  intro s hr
  have hpower : exec .powerOnReset s = .next (s.resetPart .powerOn) := by
    change Host.Outcome.next s.powerOn = _
    rw [State.powerOn, if_neg (by simp [hr])]
  rw [hpower, State.resetPart_eq]
  rfl

theorem State.resetBlocks_links (k : ResetKind) : (s.resetBlocks k).links = Table.ofFn fun l =>
    resetLink (s.link l).role (addCause k (s.link l).causes) := by
  refine Table.ext_get fun l => ?_
  rw [Table.get_ofFn]
  exact Table.get_map _ _ _

/-- Settles O13: RESETB low is the reset of the blocks alone, and its release the latching of the straps. -/
theorem pinResets : Obligations.PinResets := by
  unfold Obligations.PinResets
  refine fun s => ⟨fun hr => ?_, fun hr => ?_⟩
  · change Host.Outcome.next s.pinReset = _
    have hlinks := s.resetBlocks_links .pin
    rw [State.pinReset, if_neg (by simp [hr])]
    change Host.Outcome.next { s.resetBlocks .pin with pins := { s.pins with resetbLow := true } } = _
    have hblocks : s.resetBlocks .pin = { s.resetBlocks .pin with links := (s.resetBlocks .pin).links } := rfl
    rw [hblocks, hlinks]
    rfl
  · change Host.Outcome.next s.resetbRelease = _
    rw [State.resetbRelease, if_pos hr]
    rfl

/-- Settles O14: RESTART only posts its reply; the end of that reply, or its loss, brings the reset. -/
theorem restartFollowsItsReply : Obligations.RestartFollowsItsReply := by
  unfold Obligations.RestartFollowsItsReply
  refine fun s l tag => ⟨fun hadm hs => ?_, fun ps hadm => ⟨fun hs => ?_, fun hs hps => ?_⟩,
    fun w hr hw => ⟨fun hsending => ?_, fun hwaiting => ?_⟩, rfl, fun m => ?_, fun k hk => ?_⟩
  · exact exec_answered rfl rfl hadm (.inl hs) rfl rfl
  · exact exec_inStartup (c := .restart l tag ps) rfl hadm hs rfl
  · exact exec_answered rfl rfl hadm (.inl hs) (if_pos hps) rfl
  · have hcomes : (s.link l).sending.isSome = true := by rw [hsending]; rfl
    rw [exec_event_due (c := .replySent l) rfl hcomes hr, State.replySent, if_pos (by simp [hsending, hw])]
  · have hcomes : (s.link l).waiting.isSome = true := by rw [hwaiting]; rfl
    rw [exec_event_due (c := .replyDropped l) rfl hcomes hr, State.replyDropped,
      if_pos ((LinkRec.dropRestarts_of_waiting hwaiting).trans hw)]
  · rw [State.link, State.resetPart_links, Table.get_ofFn]
    rfl
  · rw [State.resetPart_eq]
    simp only [List.mem_cons, List.not_mem_nil, or_false] at hk
    obtain rfl | rfl | rfl := hk <;> rfl

end Sys2Proof.Machine

/-! O16 to O21: the requests for motions. What a slot answers to each, check by check. -/

namespace Sys2Proof.Machine

variable {s u : State} {l : Link} {a : Actuator} {k : Stroke} {given : Option Nat} {gate : Option Gate} {w : Starter} {r : Result}

/-! ### The checks of a motion -/

/-- Check 4 of R3 fails: the stroke, or a condition that every motion needs, is not ready. -/
abbrev State.NotReadyFor (u : State) (a : Actuator) (k : Stroke) : Prop :=
  u.ready a k = false ∨ u.cond .parked = false ∨ u.cond .standstill = false ∨ u.cond .estopClear = false

/-- Check 5 of R3 fails: the actuator stands at the target already. -/
abbrev State.AtTarget (u : State) (a : Actuator) (k : Stroke) (given : Option Nat) : Prop :=
  u.endTestValid a = true ∧ u.endTest a k ((u.takenTarget a k given).getD 0) = true

theorem State.takeMotion_notConfigured (h : u.strokeMapped a k = false) :
    u.takeMotion a k given gate w = (.notConfigured, u) := if_pos (by simp [h])

theorem State.takeMotion_blocked (hm : u.strokeMapped a k = true) (hb : u.NotReadyFor a k) :
    u.takeMotion a k given gate w = (.blocked, u) := by
  unfold State.takeMotion
  rw [if_neg (by simp [hm]), if_pos]
  simp only [Bool.not_eq_true', Bool.and_eq_false_iff]
  tauto

/-- The first two checks pass, and the end test decides. -/
theorem State.takeMotion_of_checks (hm : u.strokeMapped a k = true) (hb : ¬u.NotReadyFor a k) :
    u.takeMotion a k given gate w = if u.endTestValid a && u.endTest a k ((u.takenTarget a k given).getD 0) then (.atLimit, u)
      else (if u.targetClamped a given then .clamped else .accepted, u.enterWaiting a k (u.takenTarget a k given) gate w) := by
  unfold State.takeMotion
  rw [if_neg (by simp [hm]), if_neg]
  simp only [Bool.not_eq_true', Bool.and_eq_false_iff]
  tauto

theorem State.takeMotion_atLimit (hm : u.strokeMapped a k = true) (hb : ¬u.NotReadyFor a k) (he : u.AtTarget a k given) :
    u.takeMotion a k given gate w = (.atLimit, u) := by
  rw [State.takeMotion_of_checks hm hb, if_pos (by simp [he.1, he.2])]

/-- A motion that passes every check puts its slot in WAITING. -/
theorem State.takeMotion_starts (hm : u.strokeMapped a k = true) (hb : ¬u.NotReadyFor a k) (he : ¬u.AtTarget a k given) :
    u.takeMotion a k given gate w = (if u.targetClamped a given then .clamped else .accepted,
      u.enterWaiting a k (u.takenTarget a k given) gate w) := by
  rw [State.takeMotion_of_checks hm hb, if_neg fun h => he (by simpa using h)]

/-- The first of the checks at the slot that fails, and ACCEPTED when none does (R3, checks 4 and 5). -/
def State.slotCheck (u : State) (a : Actuator) (k : Stroke) (given : Option Nat) : Result :=
  if u.strokeMapped a k = false then .notConfigured
  else if u.NotReadyFor a k then .blocked
  else if u.AtTarget a k given then .atLimit
  else .accepted

/-- A motion that fails a check is refused without effect. -/
theorem State.takeMotion_refuses (hr : u.slotCheck a k given = r) (hne : r ≠ .accepted) :
    u.takeMotion a k given gate w = (r, u) := by
  unfold State.slotCheck at hr
  split at hr
  next hm => rw [State.takeMotion_notConfigured hm, hr]
  next hm =>
  have hm : u.strokeMapped a k = true := by simpa using hm
  split at hr
  next hb => rw [State.takeMotion_blocked hm hb, hr]
  next hb =>
  split at hr
  next he => rw [State.takeMotion_atLimit hm hb he, hr]
  next he => exact absurd hr.symm hne

theorem State.slotCheck_withFrame : (s.withFrame l).slotCheck a k given = s.slotCheck a k given := by
  simp only [State.slotCheck, State.NotReadyFor, State.AtTarget, State.strokeMapped_withFrame, State.ready_withFrame, State.cond_withFrame,
    State.endTestValid_withFrame, State.endTest_withFrame, State.takenTarget_withFrame]

theorem State.motionAnswer_refused (hr : r ≠ .accepted) (hr' : r ≠ .clamped) : u.motionAnswer (r, u) = u.answer r :=
  if_neg (by simp [hr, hr'])

theorem State.motionAnswer_started {t : State} (hr : r = .accepted ∨ r = .clamped) :
    u.motionAnswer (r, t) = t.finish.answer r := if_pos hr

theorem State.slotCheck_ne_clamped : u.slotCheck a k given ≠ .clamped := by
  unfold State.slotCheck
  split
  · nofun
  split
  · nofun
  split <;> nofun

theorem State.motionParamsOk_owner {o : Owner} : u.motionParamsOk a k given (.owner o) = true ↔
    ¬((u.policy a k).run = false ∨ (given ≠ none ∧ a.hatch? ≠ none)) := by
  simp only [State.motionParamsOk, Bool.and_eq_true, Bool.or_eq_true, Option.isNone_iff_eq_none]
  rw [Bool.eq_false_iff]
  tauto

theorem State.motionParamsOk_holder : u.motionParamsOk a k none (.holder l) = (u.policy a k).hold := by
  simp [State.motionParamsOk]

/-! ### MOVE -/

/-- The first check of a MOVE that fails (R3, R10). -/
def State.moveCheck (u : State) (a : Actuator) (k : Stroke) (given : Option Nat) : Result :=
  if u.device.state ≠ .ready then .refusedState
  else if (u.policy a k).run = false ∨ (given ≠ none ∧ a.hatch? ≠ none) then .badParam
  else if (u.slot a).state ≠ .idle then .busy
  else u.slotCheck a k given

theorem State.moveCheck_withFrame : (s.withFrame l).moveCheck a k given = s.moveCheck a k given := by
  simp only [State.moveCheck, State.slotCheck_withFrame]
  rfl

theorem moveRule_refusedState {ps : List Byte} (h : u.device.state ≠ .ready) : moveRule l ps u = u.answer .refusedState := if_pos h

theorem moveRule_unparsed {ps : List Byte} (hready : u.device.state = .ready) (hps : moveOfBytes ps = none) :
    moveRule l ps u = u.answer .badParam := by
  unfold moveRule
  rw [if_neg (by simp [hready])]
  simp only [hps]

/-- A MOVE in READY comes to its slot when the policy lists it. -/
theorem moveRule_of_bytes {ps : List Byte} (hready : u.device.state = .ready) (hps : moveOfBytes ps = some (a, k, given)) :
    moveRule l ps u = if u.motionParamsOk a k given (.owner (.link l)) then u.takeMove l a k given else u.answer .badParam := by
  unfold moveRule
  rw [if_neg (by simp [hready])]
  simp only [hps]
  cases u.motionParamsOk a k given (.owner (.link l)) <;> rfl

/-- A MOVE that fails a check is answered with it. -/
theorem moveRule_refuses {ps : List Byte} (hps : moveOfBytes ps = some (a, k, given)) (hr : u.moveCheck a k given = r)
    (hne : r ≠ .accepted) : moveRule l ps u = u.answer r := by
  unfold State.moveCheck at hr
  split at hr
  next hstate => rw [moveRule_refusedState hstate, hr]
  next hstate =>
  rw [moveRule_of_bytes (not_not.mp hstate) hps]
  split at hr
  next hparams => rw [if_neg (by rw [State.motionParamsOk_owner]; exact not_not.mpr hparams), hr]
  next hparams =>
  rw [if_pos (State.motionParamsOk_owner.mpr hparams), State.takeMove]
  split at hr
  next hbusy => rw [if_pos hbusy, hr]
  next hbusy =>
  rw [if_neg hbusy, State.takeMotion_refuses hr hne]
  exact State.motionAnswer_refused hne (hr ▸ State.slotCheck_ne_clamped)

/-! ### HOLD -/

/-- The first check of a HOLD at an IDLE slot that fails; at another slot none does (R3, R5). -/
def State.holdCheck (u : State) (a : Actuator) (k : Stroke) : Result :=
  if u.device.state ≠ .ready then .refusedState
  else if (u.policy a k).hold = false then .badParam
  else if (u.slot a).state ≠ .idle then .accepted
  else u.slotCheck a k none

theorem State.holdCheck_withFrame : (s.withFrame l).holdCheck a k = s.holdCheck a k := by
  simp only [State.holdCheck, State.slotCheck_withFrame]
  rfl

theorem holdRule_refusedState {ps : List Byte} (h : u.device.state ≠ .ready) : holdRule l ps u = u.answer .refusedState := if_pos h

theorem holdRule_unparsed {ps : List Byte} (hready : u.device.state = .ready)
    (hps : ∀ x y, ps = [x, y] → motionOfBytes x y = none) : holdRule l ps u = u.answer .badParam := by
  unfold holdRule
  rw [if_neg (by simp [hready])]
  split
  · next x y => simp only [hps x y rfl]
  · rfl

/-- A HOLD in READY comes to its slot when the policy lists it. -/
theorem holdRule_of_bytes {x y : Byte} (hready : u.device.state = .ready) (hps : motionOfBytes x y = some (a, k)) :
    holdRule l [x, y] u = if (u.policy a k).hold then u.takeHold l a k else u.answer .badParam := by
  unfold holdRule
  rw [if_neg (by simp [hready])]
  simp only [hps, State.motionParamsOk_holder]
  cases (u.policy a k).hold <;> rfl

theorem State.takeHold_of_idle (h : (u.slot a).state = .idle) :
    u.takeHold l a k = u.motionAnswer (u.takeMotion a k none none (.holder l)) := by
  unfold State.takeHold
  simp only [h]

/-- A HOLD that fails a check is answered with it. -/
theorem holdRule_refuses {x y : Byte} (hps : motionOfBytes x y = some (a, k)) (hr : u.holdCheck a k = r) (hne : r ≠ .accepted) :
    holdRule l [x, y] u = u.answer r := by
  unfold State.holdCheck at hr
  split at hr
  next hstate => rw [holdRule_refusedState hstate, hr]
  next hstate =>
  rw [holdRule_of_bytes (not_not.mp hstate) hps]
  split at hr
  next hhold => rw [if_neg (by simp [hhold]), hr]
  next hhold =>
  rw [if_pos (by simpa using hhold)]
  split at hr
  next hbusy => exact absurd hr.symm hne
  next hbusy =>
  rw [State.takeHold_of_idle (not_not.mp hbusy), State.takeMotion_refuses hr hne]
  exact State.motionAnswer_refused hne (hr ▸ State.slotCheck_ne_clamped)

/-! ### What a stroke uses and when it is over -/

theorem State.strokeMapped_iff : s.strokeMapped a k = true ↔
    ∀ f ∈ strokeFuncs a k, ∃ c, ∀ d, s.tables.outputMap.get d = some f ↔ d = c := by
  simp only [State.strokeMapped, List.all_eq_true, State.mapped_iff]

/-- Settles O18: the checks of R3 are taken in their order, and the first that fails answers. -/
theorem motionRefusals : Obligations.MotionRefusals := by
  unfold Obligations.MotionRefusals
  refine ⟨fun s l tag ps a k given hps hadm hs r hr hne => ?_, fun s l tag x y a k hps hadm hs r hr hne => ?_,
    fun s l tag ps hready => ⟨fun hps hadm => ?_, fun hps hadm => ?_⟩, fun s a k => State.strokeMapped_iff, rfl, rfl, rfl, rfl,
    rfl, rfl, rfl, rfl, fun s target => ⟨⟨rfl, rfl, rfl, rfl⟩, ?_, ?_, ?_, ?_, ?_, ?_, ?_, ?_⟩⟩
  · have hcheck : (s.withFrame l).moveCheck a k given = r := State.moveCheck_withFrame.trans hr.symm
    exact exec_answered rfl rfl hadm (.inl hs) (moveRule_refuses hps hcheck hne) rfl
  · have hcheck : (s.withFrame l).holdCheck a k = r := State.holdCheck_withFrame.trans hr.symm
    exact exec_answered rfl rfl hadm (.inl hs) (holdRule_refuses hps hcheck hne) rfl
  · exact exec_answered rfl rfl hadm (.inl (by simp [hready])) (moveRule_unparsed (u := s.withFrame l) hready hps) rfl
  · exact exec_answered rfl rfl hadm (.inl (by simp [hready])) (holdRule_unparsed (u := s.withFrame l) hready hps) rfl
  · exact decide_eq_true_iff
  · simp [State.endTest]
  · exact decide_eq_true_iff
  · exact decide_eq_true_iff
  · exact decide_eq_true_iff
  · exact decide_eq_true_iff
  · exact decide_eq_true_iff
  · exact decide_eq_true_iff

/-! ### A motion that starts -/

/-- A slot in WAITING, on the state after a frame. -/
theorem State.enterWaiting_withFrame {target : Option Nat} : (s.withFrame l).enterWaiting a k target gate w
    = ((({ s.withFrame l with arbiter := { s.arbiter with callList := s.arbiter.callList ++ [a] } }).setSlot a
        { s.slot a with
          state := .waiting, stroke := some k, target := target
          holders := match w with | .holder l => LinkTimers.none.set l (some 0) | .owner _ => LinkTimers.none
          owner := match w with | .holder _ => none | .owner o => some o
          runTimer := 0, need := s.requirement a k gate }).push .round) := by
  cases w <;> rfl

theorem State.not_notReadyFor (hready : s.ready a k = true) (hparked : s.cond .parked = true) (hstand : s.cond .standstill = true)
    (hestop : s.cond .estopClear = true) : ¬s.NotReadyFor a k := by simp [hready, hparked, hstand, hestop]

/-- Settles O16: the checks pass and the slot enters WAITING. -/
theorem holdStarts : Obligations.HoldStarts := by
  unfold Obligations.HoldStarts
  intro s l tag x y a k hps hadm hstate hhold hidle hmapped hready hparked hstand hestop hend
  have hchecks : ¬(s.withFrame l).NotReadyFor a k := State.not_notReadyFor (s := s.withFrame l) hready hparked hstand hestop
  have htarget : ¬(s.withFrame l).AtTarget a k none := by
    intro h
    simp only [State.AtTarget, State.endTestValid_withFrame, State.endTest_withFrame, State.takenTarget_withFrame] at h
    simp [h.1, h.2] at hend
  have hrule : holdRule l [x, y] (s.withFrame l)
      = ((s.withFrame l).enterWaiting a k (s.takenTarget a k none) none (.holder l)).finish.answer .accepted := by
    rw [holdRule_of_bytes (u := s.withFrame l) hstate hps, State.policy_withFrame, if_pos hhold, State.takeHold_of_idle (u := s.withFrame l) hidle,
      State.takeMotion_starts (u := s.withFrame l) hmapped hchecks htarget, State.takenTarget_withFrame,
      State.targetClamped_withFrame]
    have hclamped : s.targetClamped a none = false := by cases a <;> rfl
    rw [hclamped]
    exact State.motionAnswer_started (.inl rfl)
  rw [State.enterWaiting_withFrame] at hrule
  exact exec_answered rfl rfl hadm (.inl (by simp [hstate])) hrule rfl

/-- The condition a step's gate adds (R55). -/
theorem gate_cond_iff {c : Cond} : gate.map Gate.cond = some c ↔
    (gate = some .gate0 ∧ c = .gate0) ∨ (gate = some .gate1 ∧ c = .gate1) := by
  rcases gate with _ | (_ | _) <;> simp [Gate.cond, @eq_comm _ c]

/-- Settles O19: the checks pass and the slot enters WAITING with the link as its owner. -/
theorem moveStarts : Obligations.MoveStarts := by
  unfold Obligations.MoveStarts
  refine ⟨?_, fun s k t => ⟨rfl, rfl, rfl, rfl, rfl, rfl, fun a ha => ?_, decide_eq_true_iff, decide_eq_true_iff⟩,
    fun s a k gate c => ?_⟩
  · intro s l tag ps a k given hps hadm hstate hrun hgiven hidle hmapped hready hparked hstand hestop hend
    have hchecks : ¬(s.withFrame l).NotReadyFor a k := State.not_notReadyFor (s := s.withFrame l) hready hparked hstand hestop
    have htarget : ¬(s.withFrame l).AtTarget a k given := by
      intro h
      simp only [State.AtTarget, State.endTestValid_withFrame, State.endTest_withFrame, State.takenTarget_withFrame] at h
      simp [h.1, h.2] at hend
    have hparams : (s.withFrame l).motionParamsOk a k given (.owner (.link l)) = true := by
      rw [State.motionParamsOk_owner, State.policy_withFrame]
      simp only [hrun]
      tauto
    have hrule : moveRule l ps (s.withFrame l)
        = ((s.withFrame l).enterWaiting a k (s.takenTarget a k given) none (.owner (.link l))).finish.answer
          (if s.targetClamped a given then .clamped else .accepted) := by
      rw [moveRule_of_bytes (u := s.withFrame l) hstate hps, if_pos hparams, State.takeMove,
        if_neg (not_not.mpr (show ((s.withFrame l).slot a).state = .idle from hidle)),
        State.takeMotion_starts (u := s.withFrame l) hmapped hchecks htarget, State.takenTarget_withFrame,
        State.targetClamped_withFrame]
      exact State.motionAnswer_started (by split <;> simp)
    rw [State.enterWaiting_withFrame] at hrule
    exact exec_answered rfl rfl hadm (.inl (by simp [hstate])) hrule rfl
  · cases a
    case lift | tilt => exact absurd rfl ha
    case khatch | ohatch => exact ⟨rfl, rfl⟩
  · rw [State.requirement, condSet_has_of]
    simp only [Bool.or_eq_true, decide_eq_true_eq, or_assoc, gate_cond_iff]

end Sys2Proof.Machine

/-! O17, O20, O21, O23, O24 and O25: a motion that is held, let go, cancelled, or ended by a timer. -/

namespace Sys2Proof.Machine

variable {s u : State} {l : Link} {a : Actuator} {k : Stroke}

/-! ### HOLD at a busy slot -/

/-- WAITING and the granted states but SETTLING. -/
theorem SlotState.keptAlive_iff {st : SlotState} :
    st.keptAlive = true ↔ st = .waiting ∨ st.granted = true ∧ st ≠ .settling := by
  cases st <;> decide

/-- A HOLD at a motion in progress (R5, R6). -/
theorem State.takeHold_of_keptAlive (h : (u.slot a).state.keptAlive = true) :
    u.takeHold l a k = if (u.slot a).owner.isSome then u.answer .busy
      else if (u.slot a).stroke = some k then (u.joinHolders a l).answer .accepted
      else (u.takeConflict a l).finish.answer .conflict := by
  unfold State.takeHold
  cases hstate : (u.slot a).state <;> rw [hstate] at h
  case idle | settling | blocked => cases h
  all_goals simp only [hstate]

theorem State.takeHold_of_settling (h : (u.slot a).state = .settling) : u.takeHold l a k = (u.watchLink a l).answer .busy := by
  unfold State.takeHold
  simp only [h]

theorem State.takeHold_of_blocked (h : (u.slot a).state = .blocked) : u.takeHold l a k = (u.watchLink a l).answer .conflict := by
  unfold State.takeHold
  simp only [h]

/-- Settles O17: the slot's state, its owner and its stroke say how the HOLD is taken. -/
theorem holdAtABusySlot : Obligations.HoldAtABusySlot := by
  unfold Obligations.HoldAtABusySlot
  intro s l tag x y a k hps hadm hstate hhold
  have hrule : holdRule l [x, y] (s.withFrame l) = (s.withFrame l).takeHold l a k := by
    rw [holdRule_of_bytes (u := s.withFrame l) hstate hps, State.policy_withFrame, if_pos hhold]
  have hs : s.device.state ≠ .startup ∨ false = true := .inl (by simp [hstate])
  refine ⟨fun hkept howner => ?_, fun hkept howner hstroke => ?_, fun hsettling => ?_, fun hblocked => ?_,
    fun hkept howner hstroke => ?_⟩
  · rw [State.takeHold_of_keptAlive (u := s.withFrame l) (SlotState.keptAlive_iff.mpr hkept),
      State.slot_withFrame, if_pos (Option.isSome_iff_ne_none.mpr howner)] at hrule
    exact exec_answered rfl rfl hadm hs hrule rfl
  · rw [State.takeHold_of_keptAlive (u := s.withFrame l) (SlotState.keptAlive_iff.mpr hkept),
      State.slot_withFrame, if_neg (show ¬(s.slot a).owner.isSome = true by simp [howner]), if_pos hstroke] at hrule
    exact exec_answered rfl rfl hadm hs hrule rfl
  · rw [State.takeHold_of_settling (u := s.withFrame l) hsettling] at hrule
    exact exec_answered rfl rfl hadm hs hrule rfl
  · rw [State.takeHold_of_blocked (u := s.withFrame l) hblocked] at hrule
    exact exec_answered rfl rfl hadm hs hrule rfl
  · rw [State.takeHold_of_keptAlive (u := s.withFrame l) (SlotState.keptAlive_iff.mpr hkept),
      State.slot_withFrame, if_neg (show ¬(s.slot a).owner.isSome = true by simp [howner]), if_neg hstroke] at hrule
    exact exec_answered rfl rfl hadm hs hrule rfl

/-! ### RELEASE -/

/-- A RELEASE of a holder (R9). -/
theorem State.takeRelease_of_holder (h : (u.slot a).holders.get l ≠ none) :
    u.takeRelease l a = (u.holderLeaves a l .released).finish.answer .accepted :=
  if_pos (Option.isSome_iff_ne_none.mpr h)

theorem State.takeRelease_of_watcher (h : (u.slot a).holders.get l = none) (hw : (u.slot a).watch.get l ≠ none) :
    u.takeRelease l a = (u.watcherLeaves a l).finish.answer .accepted := by
  rw [State.takeRelease, if_neg (by simp [h]), if_pos (Option.isSome_iff_ne_none.mpr hw)]

theorem State.takeRelease_of_other (h : (u.slot a).holders.get l = none) (hw : (u.slot a).watch.get l = none) :
    u.takeRelease l a = u.answer .accepted := by
  rw [State.takeRelease, if_neg (by simp [h]), if_neg (by simp [hw])]

/-- A link leaves the watch set, as R9 and R22 write it. -/
theorem State.watcherLeaves_eq : u.watcherLeaves a l =
    if (u.slot a).state = .blocked ∧ LinkTimers.isEmpty ((u.slot a).watch.set l none) = true then
      (u.setSlot a { u.slot a with watch := (u.slot a).watch.set l none, state := .idle }).push (.slotFree a)
    else u.setSlot a { u.slot a with watch := (u.slot a).watch.set l none } := by
  simp only [State.watcherLeaves, Bool.and_eq_true, decide_eq_true_eq]

theorem releaseRule_refusedState {ps : List Byte} (h : u.device.state ≠ .ready) :
    releaseRule l ps u = u.answer .refusedState := if_pos h

theorem releaseRule_of_byte {x : Byte} (hready : u.device.state = .ready) (hx : Actuator.ofByte x = some a) :
    releaseRule l [x] u = u.takeRelease l a := by
  unfold releaseRule
  rw [if_neg (by simp [hready])]
  simp only [hx]

theorem releaseRule_unparsed {ps : List Byte} (hready : u.device.state = .ready)
    (hps : ∀ x, ps = [x] → Actuator.ofByte x = none) : releaseRule l ps u = u.answer .badParam := by
  unfold releaseRule
  rw [if_neg (by simp [hready])]
  split
  · next x => simp only [hps x rfl]
  · rfl

/-- Settles O20: a holder leaves the holders, a watched link the watch set, and any other link nothing. -/
theorem releaseLetsGo : Obligations.ReleaseLetsGo := by
  unfold Obligations.ReleaseLetsGo
  refine ⟨fun s l tag x a hx hadm hstate => ?_, fun s l tag ps hadm => ⟨fun hstate => ?_, fun hstate hps => ?_⟩⟩
  · have hrule : releaseRule l [x] (s.withFrame l) = (s.withFrame l).takeRelease l a :=
      releaseRule_of_byte (u := s.withFrame l) hstate hx
    have hs : s.device.state ≠ .startup ∨ false = true := .inl (by simp [hstate])
    refine ⟨fun hholds hsome => ?_, fun hholds hlast => ?_, fun hholds hwatches => ?_, fun hholds hwatches => ?_⟩
    · rw [State.takeRelease_of_holder (u := s.withFrame l) hholds, State.holderLeaves, State.slot_withFrame,
        if_neg (by simpa using hsome)] at hrule
      exact exec_answered rfl rfl hadm hs hrule rfl
    · rw [State.takeRelease_of_holder (u := s.withFrame l) hholds, State.holderLeaves, State.slot_withFrame,
        if_pos hlast] at hrule
      exact exec_answered rfl rfl hadm hs hrule rfl
    · rw [State.takeRelease_of_watcher (u := s.withFrame l) hholds hwatches, State.watcherLeaves_eq] at hrule
      exact exec_answered rfl rfl hadm hs hrule rfl
    · rw [State.takeRelease_of_other (u := s.withFrame l) hholds hwatches] at hrule
      exact exec_answered rfl rfl hadm hs hrule rfl
  · exact exec_refusedState rfl rfl hadm rfl (releaseRule_refusedState (u := s.withFrame l) hstate) rfl
  · exact exec_answered rfl rfl hadm (.inl (by simp [hstate])) (releaseRule_unparsed (u := s.withFrame l) hstate hps) rfl

/-! ### CANCEL -/

theorem State.takeCancel_of_link {m : Link} (h : (u.slot a).state.keptAlive = true) (ho : (u.slot a).owner = some (.link m)) :
    u.takeCancel a = (u.endMotion a .cancelled).finish.answer .accepted := by
  unfold State.takeCancel
  cases hstate : (u.slot a).state <;> rw [hstate] at h
  case idle | settling | blocked => cases h
  all_goals simp only [ho]

theorem State.takeCancel_of_other (h : (u.slot a).state.keptAlive = true) (ho : ∀ m, (u.slot a).owner ≠ some (.link m)) :
    u.takeCancel a = u.answer .notOwner := by
  have hdenied : (match (u.slot a).owner with
      | some (.link _) => (u.endMotion a .cancelled).finish.answer .accepted
      | some (.ctx _) | none => u.answer .notOwner) = u.answer .notOwner := by
    cases howner : (u.slot a).owner with
    | none => rfl
    | some o =>
      cases o with
      | link m => exact absurd howner (ho m)
      | ctx c => rfl
  unfold State.takeCancel
  cases hstate : (u.slot a).state <;> rw [hstate] at h
  case idle | settling | blocked => cases h
  all_goals exact hdenied

theorem State.takeCancel_of_no_motion (h : (u.slot a).state.keptAlive = false) : u.takeCancel a = u.answer .accepted := by
  unfold State.takeCancel
  cases hstate : (u.slot a).state <;> rw [hstate] at h
  case waiting | priming | running | holding => cases h

theorem cancelRule_refusedState {ps : List Byte} (h : u.device.state ≠ .ready) :
    cancelRule ps u = u.answer .refusedState := if_pos h

theorem cancelRule_of_byte {x : Byte} (hready : u.device.state = .ready) (hx : Actuator.ofByte x = some a) :
    cancelRule [x] u = u.takeCancel a := by
  unfold cancelRule
  rw [if_neg (by simp [hready])]
  simp only [hx]

theorem cancelRule_unparsed {ps : List Byte} (hready : u.device.state = .ready)
    (hps : ∀ x, ps = [x] → Actuator.ofByte x = none) : cancelRule ps u = u.answer .badParam := by
  unfold cancelRule
  rw [if_neg (by simp [hready])]
  split
  · next x => simp only [hps x rfl]
  · rfl

/-- Settles O21: the motion's owner says how the CANCEL is taken. -/
theorem cancelEnds : Obligations.CancelEnds := by
  unfold Obligations.CancelEnds
  refine ⟨fun s l tag x a hx hadm hstate => ?_, fun s l tag ps hadm => ⟨fun hstate => ?_, fun hstate hps => ?_⟩⟩
  · have hrule : cancelRule [x] (s.withFrame l) = (s.withFrame l).takeCancel a :=
      cancelRule_of_byte (u := s.withFrame l) hstate hx
    have hs : s.device.state ≠ .startup ∨ false = true := .inl (by simp [hstate])
    refine ⟨fun hkept m howner => ?_, fun hkept howner => ?_, fun hkept => ?_⟩
    · rw [State.takeCancel_of_link (u := s.withFrame l) (SlotState.keptAlive_iff.mpr hkept) howner] at hrule
      exact exec_answered rfl rfl hadm hs hrule rfl
    · rw [State.takeCancel_of_other (u := s.withFrame l) (SlotState.keptAlive_iff.mpr hkept) howner] at hrule
      exact exec_answered rfl rfl hadm hs hrule rfl
    · rw [State.takeCancel_of_no_motion (u := s.withFrame l)
        (Bool.eq_false_iff.mpr fun h => hkept (SlotState.keptAlive_iff.mp h))] at hrule
      exact exec_answered rfl rfl hadm hs hrule rfl
  · exact exec_refusedState rfl rfl hadm rfl (cancelRule_refusedState (u := s.withFrame l) hstate) rfl
  · exact exec_answered rfl rfl hadm (.inl (by simp [hstate])) (cancelRule_unparsed (u := s.withFrame l) hstate hps) rfl

/-! ### Lapses -/

theorem State.refreshWindow_eq : s.refreshWindow = 10000 * s.tables.timing.refresh := by
  simp only [State.refreshWindow, ms]; omega

/-- Settles O24: a lapse is a holder's where the link holds, and the watched link's otherwise. -/
theorem holdersAndWatchersLapse : Obligations.HoldersAndWatchersLapse := by
  unfold Obligations.HoldersAndWatchersLapse
  intro s a l v hr hlimit
  rw [← State.refreshWindow_eq] at hlimit
  refine ⟨fun hholds => ?_, fun hwatches => ?_, fun hholds hwatches => ?_⟩
  · have hdue : s.holderDue a l = true := timerAt_some hholds hlimit
    rw [exec_event_due (c := .holderLapse a l) rfl (by simp [hdue]) hr, State.lapseHolder, if_pos hdue]
    rfl
  · have hdue : s.watchDue a l = true := timerAt_some hwatches hlimit
    rw [exec_event_due (c := .watchLapse a l) rfl hdue hr, State.watcherLeaves_eq]
  · have hdue : s.watchDue a l = true := timerAt_some hwatches hlimit
    have hnot : ¬s.holderDue a l = true := by simp [State.holderDue, hholds, timerAt]
    rw [exec_event_due (c := .holderLapse a l) rfl (by simp [hdue]) hr, State.lapseHolder, if_neg hnot,
      exec_event_due (c := .watchLapse a l) rfl hdue hr]

/-- Settles O25: each timer's event at its limit. -/
theorem slotTimersEnd : Obligations.SlotTimersEnd := by
  unfold Obligations.SlotTimersEnd
  intro s a v hr
  refine ⟨fun k hstate hstroke hlimit => ?_, fun hstate hv hlimit => ?_, fun hstate hv hlimit => ?_, fun hv hlimit => ?_⟩
  · have hdue : s.runLimitDue a = true := by
      have hle : s.runLimit a k ≤ (s.slot a).runTimer := by simp only [State.runLimit, ms]; omega
      simp only [State.runLimitDue, hstroke, hstate, decide_true, Bool.true_and, decide_eq_true_eq]
      exact hle
    exact exec_event_due rfl hdue hr
  · have hdue : s.holdDue a = true := by
      rw [State.holdDue, timerAt_some hv (show ms 5000 ≤ v from hlimit), hstate]; rfl
    exact exec_event_due rfl hdue hr
  · have hdue : s.runDownDue a = true := by
      rw [State.runDownDue, timerAt_some hv (show ms 100 ≤ v from hlimit), hstate]; rfl
    exact exec_event_due rfl hdue hr
  · exact exec_event_due rfl (timerAt_some hv hlimit) hr

/-! ### How an end is taken -/

theorem Slot.raiseClass_eq (r : Slot) (o : Ending) :
    r.raiseClass o = { r with endClass := if o.cls = .blocking then some .blocking else r.endClass } := by
  unfold Slot.raiseClass
  split <;> rfl

theorem hasRunDown_iff {k : Option Stroke} : hasRunDown a k = true ↔ a = .lift ∨ k = some .powered := by
  simp [hasRunDown]

theorem Slot.reportCtx_of_owner {r : Slot} {c : Ctx} (h : r.owner = some (.ctx c)) : r.reportCtx = some c := by
  simp [Slot.reportCtx, h]

theorem Slot.reportCtx_of_no_context {r : Slot} (h : ∀ c, r.owner ≠ some (.ctx c)) : r.reportCtx = r.reportTo := by
  unfold Slot.reportCtx
  split
  · next c hc => exact absurd hc (h c)
  · rfl

/-- SETTLING begins: the outcome and its class are recorded, the holders become watched links (R19, R20). -/
theorem State.endMotion_settles {o : Ending} (hstate : (s.slot a).state = .running) (ho : o.isSettling = true)
    (hrun : a = .lift ∨ (s.slot a).stroke = some .powered) :
    s.endMotion a o = ({ s with profile := if a = Actuator.lift then { s.profile with overload := none } else s.profile }).setSlot a
      ((s.slot a).settle o) := by
  have hboth : (o.isSettling && hasRunDown a (s.slot a).stroke) = true := by rw [ho, hasRunDown_iff.mpr hrun]; rfl
  unfold State.endMotion
  simp only [hstate, hboth, if_true, State.stopOverload]
  by_cases ha : a = .lift
  · simp only [if_pos ha]; rfl
  · simp only [if_neg ha]

theorem State.endMotion_of_settling {o : Ending} (hstate : (s.slot a).state = .settling) :
    s.endMotion a o = if o.isSettling then s.setSlot a ((s.slot a).raiseClass o)
      else (s.setSlot a ((s.slot a).raiseClass o)).complete a o := by
  unfold State.endMotion
  simp only [hstate]

theorem State.endMotion_of_no_motion {o : Ending} (hstate : (s.slot a).state = .idle ∨ (s.slot a).state = .blocked) :
    s.endMotion a o = s := by
  unfold State.endMotion
  obtain h | h := hstate <;> simp only [h]

theorem State.endMotion_at_once {o : Ending}
    (hstate : (s.slot a).state = .waiting ∨ (s.slot a).state = .priming ∨ (s.slot a).state = .holding) :
    s.endMotion a o = s.complete a o := by
  unfold State.endMotion
  obtain h | h | h := hstate <;> simp only [h]

theorem State.endMotion_of_running {o : Ending} (hstate : (s.slot a).state = .running)
    (hrun : ¬(o.isSettling = true ∧ (a = .lift ∨ (s.slot a).stroke = some .powered))) : s.endMotion a o = s.complete a o := by
  rw [← hasRunDown_iff, ← Bool.and_eq_true] at hrun
  unfold State.endMotion
  simp only [hstate, if_neg hrun]

/-- Settles O23: the slot's state says how the end is taken. -/
theorem endsByState : Obligations.EndsByState := by
  unfold Obligations.EndsByState
  refine ⟨fun s a o => ⟨State.endMotion_of_no_motion, State.endMotion_at_once, State.endMotion_of_running,
    fun hstate ho hrun => ⟨fun c hc => ?_, fun hc => ?_⟩, fun hstate ho => ?_, fun hstate ho => ?_⟩, fun o => ?_, fun o => ?_,
    fun h w l => ?_⟩
  · rw [State.endMotion_settles hstate ho hrun, Slot.settle, Slot.reportCtx_of_owner hc]
    rfl
  · rw [State.endMotion_settles hstate ho hrun, Slot.settle, Slot.reportCtx_of_no_context hc]
    rfl
  · rw [State.endMotion_of_settling hstate, if_pos ho, Slot.raiseClass_eq]
  · rw [State.endMotion_of_settling hstate, if_neg (by simp [ho]), Slot.raiseClass_eq]
  · cases o <;> decide
  · cases o <;> decide
  · rw [LinkTimers.join, Table.get_ofFn]
    cases h.get l <;> simp

end Sys2Proof.Machine

/-! O26, O27 and O30: the lowering profile and the end tests, the pump's watches, and what a lost condition does. -/

namespace Sys2Proof.Machine

variable {s : State} {a : Actuator} {k : Stroke}

/-! ### The profile -/

theorem State.profileUpdate_of_running (h : (s.slot .lift).state = .running) :
    s.profileUpdate = ({ s with profile := { s.profile with update := some 0 } }).updateRunning := by
  unfold State.profileUpdate
  simp only [h]

theorem State.profileUpdate_of_settling (h : (s.slot .lift).state = .settling) :
    s.profileUpdate = ({ s with profile := { s.profile with update := some 0 } }).updateSettling := by
  unfold State.profileUpdate
  simp only [h]

theorem State.coilDuty_of_average {u : Nat} (h : s.batteryAverage ≠ 0) :
    s.coilDuty u = min 1000 (u * 24000 / s.batteryAverage) := by
  rw [State.coilDuty, if_neg h]

/-! ### End tests in RUNNING -/

/-- A running stroke whose end test passes has REACHED. -/
theorem State.runEndTest_reached (hstate : (s.slot a).state = .running) (hstroke : (s.slot a).stroke = some k)
    (hnot : ¬(a = .lift ∧ k = .ret)) (hend : s.endTest a k ((s.slot a).target.getD 0) = true) :
    s.runEndTest a = s.endMotion a .reached := by
  unfold State.runEndTest
  simp only [hstate, hstroke]
  rw [if_neg (by simpa using hnot), if_pos hend]

/-- Any other slot goes on. -/
theorem State.runEndTest_stays (h : (s.slot a).state ≠ .running ∨ (s.slot a).stroke = none ∨ ∃ k, (s.slot a).stroke = some k
    ∧ ((a = .lift ∧ k = .ret) ∨ s.endTest a k ((s.slot a).target.getD 0) = false)) : s.runEndTest a = s := by
  unfold State.runEndTest
  dsimp only
  split
  next k hstate hstroke =>
    obtain h | h | ⟨k', hk', h⟩ := h
    · exact absurd hstate h
    · rw [hstroke] at h; cases h
    · rw [hstroke] at hk'
      cases hk'
      obtain ⟨rfl, rfl⟩ | h := h
      · rfl
      · simp [h]
  next => rfl

/-! ### Hatches -/

theorem State.endTest_hatch_powered (h : Hatch) (target : Nat) :
    s.endTest h.actuator .powered target = decide (s.hatchPos h = .opened) := by cases h <;> rfl

theorem State.endTest_hatch_ret (h : Hatch) (target : Nat) :
    s.endTest h.actuator .ret target = decide (s.hatchPos h = .shut) := by cases h <;> rfl

theorem State.slot_judgeSwitches (h : Hatch) (b : Actuator) : (s.judgeSwitches h).slot b = s.slot b := by
  unfold State.judgeSwitches
  dsimp only
  split
  · rfl
  split <;> rfl

theorem State.hatchPos_judgeSwitches (h g : Hatch) : (s.judgeSwitches h).hatchPos g = s.hatchPos g := by
  unfold State.judgeSwitches
  dsimp only
  split
  · rfl
  split <;> rfl

/-- HATCH_SWITCH as R50 writes it. -/
theorem State.judgeSwitches_eq (h : Hatch) : s.judgeSwitches h =
    if s.hatchPos h = .unknown ∧ s.permit.switchFault.get h.ix = false then
      ({ s with permit := { s.permit with switchFault := s.permit.switchFault.set h.ix true } }).push
        (.occurrence .hatchSwitch (.actuator h.actuator))
    else if s.hatchPos h ≠ .unknown ∧ s.permit.switchFault.get h.ix = true then
      ({ s with permit := { s.permit with switchFault := s.permit.switchFault.set h.ix false } }).push
        (.conditionEnd .hatchSwitch (.actuator h.actuator))
    else s := by
  simp only [State.judgeSwitches, Bool.and_eq_true, decide_eq_true_eq, Bool.not_eq_true']

/-- The end test of a hatch's slot, after its switches are judged (R92). -/
theorem State.takeHatchMove_reached (h : Hatch) (hstate : (s.slot h.actuator).state = .running)
    (hends : ((s.slot h.actuator).stroke = some .powered ∧ s.hatchPos h = .opened)
      ∨ ((s.slot h.actuator).stroke = some .ret ∧ s.hatchPos h = .shut)) :
    s.take (.hatchMoved h) = (s.judgeSwitches h).endMotion h.actuator .reached := by
  change (s.judgeSwitches h).runEndTest h.actuator = _
  have hnotLift : h.actuator ≠ .lift := by cases h <;> nofun
  have hstate' : ((s.judgeSwitches h).slot h.actuator).state = .running := by rw [State.slot_judgeSwitches]; exact hstate
  obtain ⟨hstroke, hpos⟩ | ⟨hstroke, hpos⟩ := hends
  · refine State.runEndTest_reached (k := .powered) hstate' (by rw [State.slot_judgeSwitches]; exact hstroke)
      (fun hlift => hnotLift hlift.1) ?_
    rw [State.endTest_hatch_powered, State.hatchPos_judgeSwitches, hpos]
    rfl
  · refine State.runEndTest_reached (k := .ret) hstate' (by rw [State.slot_judgeSwitches]; exact hstroke)
      (fun hlift => hnotLift hlift.1) ?_
    rw [State.endTest_hatch_ret, State.hatchPos_judgeSwitches, hpos]
    rfl

theorem State.takeHatchMove_stays (h : Hatch) (hno : ¬((s.slot h.actuator).state = .running
    ∧ (((s.slot h.actuator).stroke = some .powered ∧ s.hatchPos h = .opened)
      ∨ ((s.slot h.actuator).stroke = some .ret ∧ s.hatchPos h = .shut)))) :
    s.take (.hatchMoved h) = s.judgeSwitches h := by
  change (s.judgeSwitches h).runEndTest h.actuator = _
  refine State.runEndTest_stays ?_
  simp only [State.slot_judgeSwitches]
  by_cases hstate : (s.slot h.actuator).state = .running
  · refine .inr ?_
    cases hstroke : (s.slot h.actuator).stroke with
    | none => exact .inl rfl
    | some k =>
      refine .inr ⟨k, rfl, .inr ?_⟩
      cases k with
      | powered =>
        rw [State.endTest_hatch_powered, State.hatchPos_judgeSwitches, decide_eq_false_iff_not]
        exact fun hpos => hno ⟨hstate, .inl ⟨hstroke, hpos⟩⟩
      | ret =>
        rw [State.endTest_hatch_ret, State.hatchPos_judgeSwitches, decide_eq_false_iff_not]
        exact fun hpos => hno ⟨hstate, .inr ⟨hstroke, hpos⟩⟩
  · exact .inl hstate

/-- Settles O26: an update by the LIFT slot's state, and the end tests of the other strokes at their arrivals. -/
theorem profileUpdates : Obligations.ProfileUpdates := by
  unfold Obligations.ProfileUpdates
  refine ⟨fun s v hr hv hlimit => ?_, fun s a m hm => ?_, fun s h => ?_⟩
  · have hdue : s.updateDue = true := timerAt_some hv hlimit
    have hupdate : exec .profileUpdate s = .next s.profileUpdate.finishEvent := exec_event_due rfl hdue hr
    refine ⟨fun hstate hend => ?_, fun hstate hend => ?_, fun hstate hlow => ?_, fun hstate hhigh => ?_,
      fun u => State.coilDuty_of_average⟩
    · rw [hupdate, State.profileUpdate_of_running hstate, State.updateRunning]
      exact congrArg (fun t : State => Host.Outcome.next t.finishEvent) (if_pos hend)
    · rw [hupdate, State.profileUpdate_of_running hstate, State.updateRunning]
      exact congrArg (fun t : State => Host.Outcome.next t.finishEvent) (if_neg (ne_true_of_eq_false hend))
    · rw [hupdate, State.profileUpdate_of_settling hstate, State.updateSettling]
      exact congrArg (fun t : State => Host.Outcome.next t.finishEvent) (if_pos hlow)
    · rw [hupdate, State.profileUpdate_of_settling hstate, State.updateSettling]
      exact congrArg (fun t : State => Host.Outcome.next t.finishEvent) (if_neg (Nat.not_lt.mpr hhigh))
  · have htake : s.take (.reported m) = s.runEndTest a := by obtain ⟨rfl, rfl⟩ | ⟨rfl, rfl⟩ := hm <;> rfl
    rw [htake]
    exact ⟨fun k hstate hstroke hnot hend => State.runEndTest_reached hstate hstroke hnot hend, State.runEndTest_stays⟩
  · refine ⟨fun hends => ?_, fun hno => ?_⟩
    · rw [State.takeHatchMove_reached h hends.1 hends.2, State.judgeSwitches_eq]
    · rw [State.takeHatchMove_stays h hno, State.judgeSwitches_eq]

/-! ### The pump -/

theorem State.passedPriming_eq : s.passedPriming a = if (s.slot a).state = .priming ∧ s.prime a = .passed then
    (s.endMotion a .pumpFault).push (.occurrence .pumpNoRun .none) else s := by
  simp only [State.passedPriming, State.failPriming, Bool.and_eq_true, decide_eq_true_eq]

theorem State.pumprunChanged_asserted (h : s.asserted .pumprun = true) : s.inputChanged .pumprun = s.push .primeTest := if_pos h

/-- PUMPRUN de-asserted (R38, R40, R41). -/
theorem State.pumprunChanged_lost (h : s.asserted .pumprun = false) : s.inputChanged .pumprun =
    ((((s.pumpRunLost.passedPriming .lift).passedPriming .tilt).passedPriming .khatch).passedPriming .ohatch).endStuck := by
  change s.pumprunChanged = _
  rw [State.pumprunChanged, if_neg (by simp [h]), Actuator.all]
  simp only [List.foldl_cons, List.foldl_nil]

/-- Settles O27: the prime limit and the stuck watch by what PUMPRUN says, and PUMPRUN's own changes. -/
theorem pumpWatches : Obligations.PumpWatches := by
  unfold Obligations.PumpWatches
  refine ⟨fun s a v hr => ⟨fun hstate hprime hlimit => ?_, fun hv hlimit => ?_⟩,
    fun s => ⟨fun h => ?_, fun h howner => ?_, fun h a howner => ?_⟩⟩
  · have hdue : s.primeDue a = true := by
      have hle : s.primeLimit ≤ v := by simp only [State.primeLimit, ms]; omega
      simp only [State.primeDue, hprime, hstate, hle, decide_true, Bool.and_true]
    rw [exec_event_due (c := .primeLimit a) rfl hdue hr, State.reachPrimeLimit, State.failPriming]
  · rw [exec_event_due (c := .stuckWatchExpiry) rfl (timerAt_some hv hlimit) hr, State.stuckExpired]
  · exact State.pumprunChanged_asserted h
  · rw [State.pumprunChanged_lost h]
    simp only [State.passedPriming_eq, State.pumpRunLost, howner, State.endStuck]
  · rw [State.pumprunChanged_lost h]
    simp only [State.passedPriming_eq, State.pumpRunLost, howner, State.endStuck]

/-! ### Lost conditions -/

section
variable {c : Cond} (hg : (s.slot a).state.granted = true) (hn : (s.slot a).need.has c = true)
include hg hn

/-- A gate pauses PRIMING and RUNNING (R14). -/
theorem State.loseCondition_gate (hc : c = .gate0 ∨ c = .gate1) : State.loseCondition c s a =
    if (s.slot a).state = .priming ∨ (s.slot a).state = .running then s.enterHolding a else s := by
  have hneeded : ((s.slot a).state.granted && (s.slot a).need.has c) = true := by rw [hg, hn]; rfl
  unfold State.loseCondition
  rw [if_pos hneeded]
  simp only [← Bool.decide_or, decide_eq_true_eq]
  obtain rfl | rfl := hc <;> rfl

/-- A measurement ends the motion with SENSOR_FAULT (R16). -/
theorem State.loseCondition_measurement (hc : c = .heightValid ∨ c = .tiltValid ∨ c = .pressureValid) :
    State.loseCondition c s a = s.endMotion a .sensorFault := by
  have hneeded : ((s.slot a).state.granted && (s.slot a).need.has c) = true := by rw [hg, hn]; rfl
  unfold State.loseCondition
  rw [if_pos hneeded]
  obtain rfl | rfl | rfl := hc <;> rfl

/-- The supply ends a powered stroke with LOW_SUPPLY (R16). -/
theorem State.loseCondition_supply (hc : c = .supplyUsable) : State.loseCondition c s a
    = s.endMotion a (if (s.slot a).stroke = some .powered then .lowSupply else .interlock) := by
  have hneeded : ((s.slot a).state.granted && (s.slot a).need.has c) = true := by rw [hg, hn]; rfl
  unfold State.loseCondition
  rw [if_pos hneeded]
  subst hc; rfl

/-- The rest end the motion with INTERLOCK (R16). -/
theorem State.loseCondition_interlock (hc : c ∈ [Cond.parked, .ignitionOn, .stowed, .atGround, .liftAtBed, .khShut, .khOpen,
    .ohShut, .ohOpen]) : State.loseCondition c s a = s.endMotion a .interlock := by
  have hneeded : ((s.slot a).state.granted && (s.slot a).need.has c) = true := by rw [hg, hn]; rfl
  unfold State.loseCondition
  rw [if_pos hneeded]
  simp only [List.mem_cons, List.not_mem_nil, or_false] at hc
  obtain rfl | rfl | rfl | rfl | rfl | rfl | rfl | rfl | rfl := hc <;> rfl

end

theorem State.loseCondition_of_not_needed {c : Cond} (hn : (s.slot a).need.has c = false) : State.loseCondition c s a = s := by
  unfold State.loseCondition
  rw [if_neg (by simp [hn])]

theorem State.loseCondition_of_not_granted {c : Cond} (hg : (s.slot a).state.granted = false) :
    State.loseCondition c s a = s := by
  unfold State.loseCondition
  rw [if_neg (by simp [hg])]

/-- The emergency stop, STANDSTILL and SUPPLY_NORMAL end nothing by themselves. -/
theorem State.loseCondition_of_quiet {c : Cond} (hc : c = .estopClear ∨ c = .standstill ∨ c = .supplyNormal) :
    State.loseCondition c s a = s := by
  unfold State.loseCondition
  obtain rfl | rfl | rfl := hc <;> exact ite_self _

theorem State.enterHolding_eq : s.enterHolding a
    = (({ s with profile := if a = Actuator.lift then ⟨0, none, none⟩ else s.profile }).setSlot a { s.slot a with
        state := .holding, holdTimer := some 0, u := 0 }).setPrime a .stopped := by
  unfold State.enterHolding State.stopProfile
  by_cases ha : a = .lift
  · simp only [if_pos ha]; rfl
  · simp only [if_neg ha]

/-- A HOLDING slot whose gates all hold primes again (R15). -/
theorem State.regainGate_back (hstate : (s.slot a).state = .holding)
    (hback : ∀ c : Cond, c.isHold = true → (s.slot a).need.has c = true → s.cond c = true) :
    s.regainGate a = s.enterPriming a := by
  have hgates : holdClassHolds (s.slot a).need s.permit.conds = true := holdClassHolds_iff.mpr hback
  exact if_pos (by rw [hstate, hgates]; rfl)

theorem State.regainGate_stays (h : (s.slot a).state ≠ .holding
    ∨ ¬∀ c : Cond, c.isHold = true → (s.slot a).need.has c = true → s.cond c = true) : s.regainGate a = s := by
  refine if_neg fun hboth => ?_
  simp only [Bool.and_eq_true, decide_eq_true_eq, holdClassHolds_iff] at hboth
  obtain h | h := h
  · exact h hboth.1
  · exact h hboth.2

theorem Cond.isHold_iff {c : Cond} : c.isHold = true ↔ c = .gate0 ∨ c = .gate1 := by
  cases c <;> decide

/-- A stroke that becomes not ready ends a granted motion with its cause's outcome (R17). -/
theorem State.take_readiness_lost {cause : Cause} : s.take (.readiness a k (some cause)) =
    (if (s.slot a).stroke = some k ∧ (s.slot a).state.granted = true then s.endMotion a cause.ending else s).push .round := by
  change (if (s.slot a).stroke = some k then s.endGranted a cause.ending else s).push .round = _
  unfold State.endGranted
  by_cases hstroke : (s.slot a).stroke = some k <;> by_cases hg : (s.slot a).state.granted = true <;> simp [hstroke, hg]

/-- Settles O30: the loss of a condition at one slot by the condition's kind, and then what the arrivals hand on. -/
theorem lostConditionsEnd : Obligations.LostConditionsEnd := by
  unfold Obligations.LostConditionsEnd
  refine ⟨fun s a hg => ⟨fun c => State.loseCondition_of_not_needed,
      fun c hn hhold => State.loseCondition_gate hg hn (Cond.isHold_iff.mp hhold),
      fun c hn hc => State.loseCondition_measurement hg hn hc, fun hn => State.loseCondition_supply hg hn rfl,
      fun c => State.loseCondition_of_quiet, fun c hn hc => State.loseCondition_interlock hg hn hc⟩,
    fun s a c => State.loseCondition_of_not_granted, fun st => by cases st <;> decide, fun c => Cond.isHold_iff,
    fun s a => ⟨State.enterHolding_eq, State.regainGate_back, State.regainGate_stays⟩, fun s c => ⟨?_, ?_⟩,
    fun s a k cause => ⟨rfl, ?_⟩⟩
  · rfl
  · change s.takeCondition c false = _
    simp only [State.takeCondition, Bool.not_false, Bool.true_and, Bool.or_eq_true, decide_eq_true_eq]
    rfl
  · rw [State.take_readiness_lost]
    cases cause <;> rfl

end Sys2Proof.Machine

/-! O32 to O35: pins, debounced inputs, the emergency stop and SPEED. -/

namespace Sys2Proof.Machine

variable {s : State} {i j : Input} {d : Drive} {level : Bool}

/-! ### A change at a pin -/

/-- In DORMANT the watch on IGN is the only thing that a level changes beside its input. -/
theorem State.setLevel_eq : s.setLevel i d level =
    { s with
      inputs := s.inputs.set i.ix { s.input i with
        drive := d, level := level
        timer := if (s.input i).level = level then (s.input i).timer else s.stability i (s.sensed i level) }
      device := if i = .ign ∧ s.device.state = .dormant ∧ (s.input i).level ≠ level then
          { s.device with ignWatch := if (s.setup i).polarity.asserts level = true then some 0 else none }
        else s.device } := by
  unfold State.setLevel
  by_cases hlevel : (s.input i).level = level
  · subst hlevel
    simp only [if_true, ne_eq, not_true_eq_false, and_false, if_false]
    rfl
  · rw [if_neg hlevel]
    by_cases hign : i = .ign
    · subst hign
      by_cases hdormant : s.device.state = .dormant
      · have hpin : (s.setInput .ign { s.input .ign with
            drive := d, level := level, timer := s.stability .ign (s.sensed .ign level) }).ignPin
            = (s.setup .ign).polarity.asserts level := by
          rw [State.ignPin, State.input_setInput, if_pos rfl]
          rfl
        rw [if_pos rfl, State.watchIgn, if_pos (show (s.setInput _ _).device.state = .dormant from hdormant), hpin]
        rw [if_neg hlevel,
          if_pos (show Input.ign = .ign ∧ s.device.state = .dormant ∧ (s.input .ign).level ≠ level from ⟨rfl, hdormant, hlevel⟩)]
        rfl
      · rw [if_pos rfl, State.watchIgn, if_neg (show ¬(s.setInput _ _).device.state = .dormant from hdormant)]
        rw [if_neg hlevel, if_neg fun h => hdormant h.2.1]
        rfl
    · rw [if_neg hign]
      rw [if_neg hlevel, if_neg fun h => hign h.1]
      rfl

theorem State.stability_of_dormant {v : Bool} (h : s.device.state = .dormant) : s.stability i v = none := if_pos h

theorem State.stability_of_awake {v : Bool} (h : s.device.state ≠ .dormant) :
    s.stability i v = if (s.input i).debounced = some v then none else some 0 := if_neg h

theorem State.sensed_speed {v : Bool} : s.sensed .speed v = (s.setup .speed).polarity.asserts v := rfl

theorem State.sensed_of_ne {v : Bool} (h : i ≠ .speed) : s.sensed i v = v := if_neg h

/-- Settles O32: the new level, and what it does to the input's timer and to the watch on IGN. -/
theorem pinsFollow : Obligations.PinsFollow := by
  unfold Obligations.PinsFollow
  intro s d
  refine ⟨by cases d <;> rfl, by cases d <;> rfl, fun i => ?_⟩
  refine ⟨s.drivePin i d, rfl, ?_⟩
  have hset : s.drivePin i d = _ := State.setLevel_eq
  generalize hlevel : pinLevel d (s.setup i).bias s.freeLevel = level at hset
  have hinput : (s.drivePin i d).input i = { s.input i with
      drive := d, level := level
      timer := if (s.input i).level = level then (s.input i).timer else s.stability i (s.sensed i level) } := by
    rw [hset]; exact Table.get_set_self _ _ _
  have hdevice : (s.drivePin i d).device = if i = .ign ∧ s.device.state = .dormant ∧ (s.input i).level ≠ level then
      { s.device with ignWatch := if (s.setup i).polarity.asserts level = true then some 0 else none } else s.device := by
    rw [hset]; rfl
  have hothers : ∀ j, j ≠ i → (s.drivePin i d).input j = s.input j := fun j hj => by
    rw [hset]; exact Table.get_set_ne _ _ (by simpa using Ne.symm hj)
  rw [hinput]
  dsimp only
  subst hlevel
  refine ⟨rfl, ?_, ?_, ?_, ?_, ?_, rfl, hothers, ?_, ?_, ?_, ?_, ?_, ?_, ?_, ?_, ?_, ?_⟩
  · rintro rfl; rfl
  · rintro rfl; rfl
  · rintro rfl hbias; rw [pinLevel, hbias]; rfl
  · rintro rfl hbias; rw [pinLevel, hbias]; rfl
  · rintro rfl hbias; rw [pinLevel, hbias]; rfl
  · intro hsame; rw [if_pos hsame.symm]
  · intro hspeed hdormant hne
    rw [if_neg (Ne.symm hne), State.stability_of_awake hdormant, State.sensed_of_ne hspeed]
  · rintro rfl hdormant hne
    rw [if_neg (Ne.symm hne), State.stability_of_awake hdormant, State.sensed_speed]
  · intro hdormant hne
    rw [if_neg (Ne.symm hne), State.stability_of_dormant hdormant]
  · intro hign hdormant hne
    rw [hdevice, if_pos ⟨hign, hdormant, Ne.symm hne⟩]
  · intro hno
    rw [hdevice, if_neg]
    rintro ⟨hign, hdormant, hne⟩
    obtain h | h | h := hno
    · exact h hign
    · exact h hdormant
    · exact hne h.symm
  all_goals rw [hset]

/-! ### Debounced inputs -/

theorem otherSwitch_iff : otherSwitch i = some j ↔
    ∃ h : Hatch, (i = h.shutSwitch ∧ j = h.openSwitch) ∨ (i = h.openSwitch ∧ j = h.shutSwitch) := by
  constructor
  · intro h
    cases i <;> cases h
    · exact ⟨.kerbside, .inl ⟨rfl, rfl⟩⟩
    · exact ⟨.kerbside, .inr ⟨rfl, rfl⟩⟩
    · exact ⟨.offside, .inl ⟨rfl, rfl⟩⟩
    · exact ⟨.offside, .inr ⟨rfl, rfl⟩⟩
  · rintro ⟨_ | _, ⟨rfl, rfl⟩ | ⟨rfl, rfl⟩⟩ <;> rfl

theorem otherSwitch_ne (h : otherSwitch i = some j) : j ≠ i ∧ j ≠ .speed := by
  cases i <;> cases h <;> decide

theorem State.debounceDue_iff (hi : i ≠ .speed) : s.debounceDue i = true ↔ ∃ v, (s.input i).timer = some v ∧ 20000 ≤ v := by
  simp only [State.debounceDue, hi, ne_eq, not_false_eq_true, decide_true, Bool.true_and]
  exact timerAt_iff

/-- A hatch's end switches have no readers that take their change as an arrival. -/
theorem State.inputChanged_of_switch (h : otherSwitch i = some j) (t : State) : t.inputChanged i = t := by
  cases i <;> cases h <;> rfl

/-- Both end switches of a hatch settle together (log 41). -/
theorem State.debounced_together (ho : otherSwitch i = some j) (hdue : s.debounceDue j = true) :
    s.debounced i = (s.setInput j { s.input j with debounced := some (s.input j).level, timer := none }).setInput i
      { s.input i with debounced := some (s.input i).level, timer := none } := by
  have hother : s.settleOther i = s.settleInput j := by
    unfold State.settleOther
    simp only [ho, hdue, if_true]
  have hkeeps : (s.settleInput j).input i = s.input i := by
    rw [State.settleInput, State.input_setInput, if_neg (otherSwitch_ne ho).1]
  rw [State.debounced, State.inputChanged_of_switch ho, hother, State.settleInput, hkeeps]
  rfl

/-- An input that settles alone. -/
theorem State.debounced_alone (h : ∀ j, otherSwitch i = some j → s.debounceDue j = false) :
    s.debounced i = (s.setInput i { s.input i with debounced := some (s.input i).level, timer := none }).inputChanged i := by
  have hother : s.settleOther i = s := by
    unfold State.settleOther
    cases ho : otherSwitch i with
    | none => rfl
    | some j => simp [h j ho]
  rw [State.debounced, hother]
  rfl

theorem State.exec_debounceSettle {v : Nat} (hr : s.pins.resetbLow = false) (hi : i ≠ .speed) (hv : (s.input i).timer = some v)
    (hlimit : 20000 ≤ v) : exec (.debounceSettle i) s = .next (s.debounced i).finishEvent :=
  exec_event_due rfl ((State.debounceDue_iff hi).mpr ⟨v, hv, hlimit⟩) hr

theorem Table.set_comm {α : Type} {n : Nat} (t : Table α n) {i j : Fin n} (h : i ≠ j) (x y : α) :
    (t.set i x).set j y = (t.set j y).set i x := by
  refine Table.ext_get fun k => ?_
  simp only [Table.get_set]
  by_cases hi : i = k <;> by_cases hj : j = k <;> simp [hi, hj]
  exact absurd (hi.trans hj.symm) h

theorem State.setInput_comm (h : i ≠ j) (q r : InputRec) : (s.setInput i q).setInput j r = (s.setInput j r).setInput i q := by
  unfold State.setInput
  have hix : i.ix ≠ j.ix := by simpa using h
  exact congrArg (fun t => { s with inputs := t }) (Table.set_comm _ hix _ _)

theorem Hatch.switches_ne (h : Hatch) : h.shutSwitch ≠ h.openSwitch ∧ h.shutSwitch ≠ .speed ∧ h.openSwitch ≠ .speed := by
  cases h <;> decide

theorem Hatch.otherSwitch_shut (h : Hatch) : otherSwitch h.shutSwitch = some h.openSwitch := by cases h <;> rfl

theorem Hatch.otherSwitch_open (h : Hatch) : otherSwitch h.openSwitch = some h.shutSwitch := by cases h <;> rfl

/-- Both end switches of a hatch have settled. -/
def State.bothSettled (s : State) (h : Hatch) : State :=
  (s.setInput h.openSwitch { s.input h.openSwitch with debounced := some (s.input h.openSwitch).level, timer := none }).setInput
    h.shutSwitch { s.input h.shutSwitch with debounced := some (s.input h.shutSwitch).level, timer := none }

theorem State.input_bothSettled (h : Hatch) :
    (s.bothSettled h).input h.shutSwitch
        = { s.input h.shutSwitch with debounced := some (s.input h.shutSwitch).level, timer := none }
      ∧ (s.bothSettled h).input h.openSwitch
        = { s.input h.openSwitch with debounced := some (s.input h.openSwitch).level, timer := none } := by
  obtain ⟨hne, -, -⟩ := h.switches_ne
  refine ⟨?_, ?_⟩
  · rw [State.bothSettled, State.input_setInput, if_pos rfl]
  · rw [State.bothSettled, State.input_setInput, if_neg hne, State.input_setInput, if_pos rfl]

/-- The position both levels give (R49). -/
theorem State.hatchPos_bothSettled (h : Hatch) (hawake : s.awake = true) : (s.bothSettled h).derive.hatchPos h =
    match (s.setup h.shutSwitch).polarity.asserts (s.input h.shutSwitch).level,
      (s.setup h.openSwitch).polarity.asserts (s.input h.openSwitch).level with
    | true, false => HatchPos.shut
    | false, true => .opened
    | false, false => .between
    | true, true => .unknown := by
  obtain ⟨hshut, hopen⟩ := s.input_bothSettled h
  have hshutLevel : (s.bothSettled h).asserted? h.shutSwitch
      = some ((s.setup h.shutSwitch).polarity.asserts (s.input h.shutSwitch).level) := by
    rw [State.asserted?, hshut]; rfl
  have hopenLevel : (s.bothSettled h).asserted? h.openSwitch
      = some ((s.setup h.openSwitch).polarity.asserts (s.input h.openSwitch).level) := by
    rw [State.asserted?, hopen]; rfl
  rw [State.derive_hatchPos, State.hatchNow, if_pos (show (s.bothSettled h).awake = true from hawake), hshutLevel, hopenLevel]
  cases (s.setup h.shutSwitch).polarity.asserts (s.input h.shutSwitch).level <;>
    cases (s.setup h.openSwitch).polarity.asserts (s.input h.openSwitch).level <;> rfl

/-- Settles O33: an input settles alone or with its hatch's other end switch, whichever of the two events comes. -/
theorem inputsSettle : Obligations.InputsSettle := by
  unfold Obligations.InputsSettle
  refine ⟨fun s i v hr hi hv hlimit => ⟨fun j hj => ?_, fun hnone => ?_⟩, fun s h v w hr hawake hv hvl hw hwl => ?_⟩
  · have ho : otherSwitch i = some j := otherSwitch_iff.mpr hj.1
    rw [State.exec_debounceSettle hr hi hv hlimit,
      State.debounced_together ho ((State.debounceDue_iff (otherSwitch_ne ho).2).mpr hj.2)]
  · rw [State.exec_debounceSettle hr hi hv hlimit, State.debounced_alone fun j ho => ?_]
    refine Bool.eq_false_iff.mpr fun hdue => hnone j ⟨otherSwitch_iff.mp ho, ?_⟩
    exact (State.debounceDue_iff (otherSwitch_ne ho).2).mp hdue
  · obtain ⟨hne, hshut, hopen⟩ := h.switches_ne
    have hshutDue : s.debounceDue h.shutSwitch = true := (State.debounceDue_iff hshut).mpr ⟨v, hv, hvl⟩
    have hopenDue : s.debounceDue h.openSwitch = true := (State.debounceDue_iff hopen).mpr ⟨w, hw, hwl⟩
    have hpos := State.hatchPos_bothSettled (s := s) h hawake
    obtain ⟨xs, hagenda, hmoved, -⟩ := (derivingSettles.1 (s.bothSettled h)).2.2.2.2.2.2.2.2.1
    refine ⟨?_, ?_, hpos, ?_⟩
    · rw [State.exec_debounceSettle hr hshut hv hvl, State.debounced_together h.otherSwitch_shut hopenDue]
    · rw [State.exec_debounceSettle hr hopen hw hwl, State.debounced_together h.otherSwitch_open hshutDue,
        State.setInput_comm hne]
    · change Arrival.hatchMoved h ∈ (s.bothSettled h).derive.agenda ↔ _
      rw [hagenda, List.mem_append, hmoved h, hpos]
      exact Iff.rfl

/-! ### The emergency stop -/

theorem State.not_deasserted_of_asserted (h : s.deasserted i = true) : s.asserted i = false := by
  simp only [State.deasserted, State.asserted, decide_eq_true_eq, decide_eq_false_iff_not] at h ⊢
  rw [h]
  decide

/-- Settles O34: the flag and the device state say what the stop does. -/
theorem emergencyStops : Obligations.EmergencyStops := by
  unfold Obligations.EmergencyStops
  intro s hawake
  refine ⟨fun hon hflag => ?_, fun hon hflag => ?_, fun hoff hflag => ?_⟩
  all_goals change s.estopChanged = _
  · rw [State.estopChanged, if_neg (by simp [hawake]), if_pos hon]
    simp only [hflag, Bool.false_eq_true, if_false]
  · rw [State.estopChanged, if_neg (by simp [hawake]), if_pos hon]
    simp only [hflag, if_true]
  · rw [State.estopChanged, if_neg (by simp [hawake]), if_neg (by simp [State.not_deasserted_of_asserted hoff]),
      if_pos (by simp [hoff, hflag])]

/-! ### SPEED -/

theorem State.takeSpeed_of_edge (hawake : s.awake = true) (hd : (s.input .speed).debounced ≠ none) :
    s.takeSpeed = { s.setInput .speed { s.input .speed with
        debounced := some ((s.setup .speed).polarity.asserts (s.input .speed).level), timer := none } with
      permit := if (s.setup .speed).polarity.asserts (s.input .speed).level then s.permit.risingEdge
        else s.permit.fallingEdge } := by
  unfold State.takeSpeed
  dsimp only
  rw [if_pos (Option.isSome_iff_ne_none.mpr hd), State.trackEdge, if_pos (show (s.setInput _ _).awake = true from hawake)]
  rfl

/-- In STARTUP and DORMANT, and at the first level, there is no edge (R45, R46). -/
theorem State.takeSpeed_of_no_edge (h : s.awake = false ∨ (s.input .speed).debounced = none) :
    s.takeSpeed = s.setInput .speed { s.input .speed with
        debounced := some ((s.setup .speed).polarity.asserts (s.input .speed).level), timer := none } := by
  unfold State.takeSpeed
  dsimp only
  split
  next hsome =>
    obtain h | h := h
    · rw [State.trackEdge, if_neg (show ¬(s.setInput _ _).awake = true by rw [show (s.setInput _ _).awake = s.awake from rfl, h]; simp)]
      rfl
    · rw [h] at hsome; cases hsome
  next => rfl

/-- Settles O35: a taken level is an edge or none, and the tracker takes the edge. -/
theorem speedAndQuiet : Obligations.SpeedAndQuiet := by
  unfold Obligations.SpeedAndQuiet
  intro s v hr
  have hedge : ∀ v, (s.input .speed).timer = some v → 1000 ≤ v → exec .speedEdge s = .next s.takeSpeed.finishEvent :=
    fun v hv hlimit => exec_event_due rfl (timerAt_some hv hlimit) hr
  refine ⟨fun hv hlimit hawake hd hlevel => ?_, fun hv hlimit hawake hd hlevel => ?_, fun hv hlimit hno => ?_,
    fun hv hlimit => ?_⟩
  · rw [hedge v hv hlimit, State.takeSpeed_of_edge hawake hd, if_pos hlevel]
    have hrise : s.permit.risingEdge = { s.permit with
        standstill := if s.permit.lastRise.any (fun t => decide (t < 250000)) then false else s.permit.standstill
        lastRise := some 0, quiet := some 0 } := by
      unfold Permit.risingEdge
      have hms : ms 250 = 250000 := rfl
      rw [hms]
      cases s.permit.lastRise.any (fun t => decide (t < 250000)) <;> simp
    rw [hrise]
  · rw [hedge v hv hlimit, State.takeSpeed_of_edge hawake hd, if_neg (by simp [hlevel])]
    rfl
  · rw [hedge v hv hlimit, State.takeSpeed_of_no_edge hno]
  · exact exec_event_due rfl (timerAt_some hv hlimit) hr

end Sys2Proof.Machine

/-! O36: edges, captures and the lost rule of a capture channel. -/

namespace Sys2Proof.Machine

variable {s : State} {m : Sensor}

/-! ### Edges -/

theorem State.closePeriod_of_none (h : (s.capture m).openPeriod = none) : s.closePeriod m = s := by
  unfold State.closePeriod
  simp only [h]

theorem State.closePeriod_of_good {p : OpenPeriod} {x : Nat} (h : (s.capture m).openPeriod = some p)
    (hx : s.captureValue m (s.counter - p.rise).toNat (p.fall.map fun f => (f - p.rise).toNat) = some x) :
    s.closePeriod m = s.goodCapture m x := by
  unfold State.closePeriod
  simp only [h, OpenPeriod.times, hx]

theorem State.closePeriod_of_bad {p : OpenPeriod} (h : (s.capture m).openPeriod = some p)
    (hx : s.captureValue m (s.counter - p.rise).toNat (p.fall.map fun f => (f - p.rise).toNat) = none) :
    s.closePeriod m = s.badCapture m := by
  unfold State.closePeriod
  simp only [h, OpenPeriod.times, hx]

theorem State.fallingEdge_of_rise {rise : BitVec 16} (h : (s.capture m).openPeriod = some ⟨rise, none⟩) :
    s.fallingEdge m = s.setCapture m { s.capture m with openPeriod := some ⟨rise, some s.counter⟩ } := by
  unfold State.fallingEdge
  simp only [h]

/-! ### The value of a capture -/

theorem dutyPosition_eq (duty span : Nat) :
    dutyPosition duty span = if duty ≤ 100 then 0 else if 900 ≤ duty then span else (duty - 100) * span / 800 := by
  unfold dutyPosition
  split
  · rfl
  · by_cases h : duty < 900
    · rw [if_pos h, if_neg (Nat.not_le.mpr h)]
    · rw [if_neg h, if_pos (Nat.not_lt.mp h)]

theorem dutyCapture_of_high (span period high : Nat) : dutyCapture span period (some high) =
    if 1000 ≤ period ∧ period ≤ 10000 ∧ 50 ≤ 1000 * high / period ∧ 1000 * high / period ≤ 950 then
      some (if 1000 * high / period ≤ 100 then 0 else if 900 ≤ 1000 * high / period then span
        else (1000 * high / period - 100) * span / 800)
    else none := by
  rw [← dutyPosition_eq]
  rfl

/-! ### What a capture does to its channel -/

/-- A full window gives up its oldest value. -/
theorem pushWindow_eq {n : Nat} {w : List Nat} (x : Nat) (hn : 0 < n) (h : w.length ≤ n) :
    pushWindow n w x = if w.length = n then w.drop 1 ++ [x] else w ++ [x] := by
  unfold pushWindow
  split
  next hfull =>
    rw [hfull, Nat.add_sub_cancel_left]
    cases w with
    | nil => exact absurd hfull hn.ne
    | cons y w => rfl
  next hroom =>
    rw [show w.length + 1 - n = 0 by omega, List.drop_zero]

theorem Capture.good_eq {r : Capture} {x : Nat} {w : List Nat}
    (hw : w = if r.window.length = 4 then r.window.drop 1 ++ [x] else r.window ++ [x]) (h : r.window.length ≤ 4) :
    r.good x = { r with bad := 0, window := w, reported := w.sum / w.length, valid := decide (w.length = 4) } := by
  subst hw
  simp only [Capture.good, pushWindow_eq x (by decide) h, Capture.validNow, Nat.zero_lt_succ, decide_true, Bool.and_true]

/-- The good capture that does not recover its channel. -/
theorem State.goodCapture_plain {x : Nat} (hno : ¬((s.capture m).valid = false ∧ ((s.capture m).good x).valid = true
    ∧ s.device.state ≠ .startup)) : s.goodCapture m x = (s.setCapture m ((s.capture m).good x)).pushAll
      (if ((s.capture m).good x).reported = (s.capture m).reported then [] else [.reported m]) := by
  have hrecovers : (!(s.capture m).valid && ((s.capture m).good x).valid && s.mayPost) = false := by
    refine Bool.eq_false_iff.mpr fun h => hno ?_
    simpa [State.mayPost, and_assoc] using h
  simp only [State.goodCapture, hrecovers, Bool.false_eq_true, if_false, List.append_nil]

/-- The good capture that recovers its channel posts the ends of its flags (R73). -/
theorem State.goodCapture_recovers {x : Nat} (hyes : (s.capture m).valid = false ∧ ((s.capture m).good x).valid = true
    ∧ s.device.state ≠ .startup) : s.goodCapture m x =
      (s.setCapture m { (s.capture m).good x with rangeFlag := false, lostFlag := false }).pushAll
        ((if ((s.capture m).good x).reported = (s.capture m).reported then [] else [.reported m]) ++ (s.capture m).ends m) := by
  have hrecovers : (!(s.capture m).valid && ((s.capture m).good x).valid && s.mayPost) = true := by
    simpa [State.mayPost, and_assoc] using hyes
  simp only [State.goodCapture, hrecovers, if_true]

theorem Capture.bump_eq (r : Capture) : r.bump = { r with
    bad := if r.valid = true then r.bad + 1 else min 3 (r.bad + 1), window := if r.valid = true then r.window else [] } := by
  unfold Capture.bump
  split <;> rfl

theorem State.badCapture_of_few (h : ((s.capture m).bump).bad < 3) : s.badCapture m = s.setCapture m (s.capture m).bump :=
  if_neg (Nat.not_le.mpr h)

/-- The third bad capture posts SENSOR_RANGE where its flag is clear (R70). -/
theorem State.badCapture_posts (h : 3 ≤ ((s.capture m).bump).bad)
    (hposts : (s.capture m).rangeFlag = false ∧ s.device.state ≠ .startup) : s.badCapture m =
      (s.setCapture m { (s.capture m).bump with window := [], valid := false, rangeFlag := true }).push
        (.occurrence .sensorRange (.sensor m)) := by
  have hflag : (s.capture m).bump.rangeFlag = false := by rw [Capture.bump_eq]; exact hposts.1
  have hmay : s.mayPost = true := decide_eq_true hposts.2
  refine (if_pos h).trans ?_
  unfold State.thirdBad
  simp only [hflag, hmay, Bool.not_false, Bool.and_self, Bool.or_true, if_true]
  rfl

theorem State.badCapture_silent (h : 3 ≤ ((s.capture m).bump).bad)
    (hno : ¬((s.capture m).rangeFlag = false ∧ s.device.state ≠ .startup)) : s.badCapture m =
      s.setCapture m { (s.capture m).bump with window := [], valid := false } := by
  have hflag : (s.capture m).bump.rangeFlag = (s.capture m).rangeFlag := by rw [Capture.bump_eq]
  have hposts : (!(s.capture m).bump.rangeFlag && s.mayPost) = false := by
    refine Bool.eq_false_iff.mpr fun h => hno ?_
    rw [hflag] at h
    simpa [State.mayPost] using h
  refine (if_pos h).trans ?_
  unfold State.thirdBad
  simp only [hposts, Bool.or_false, Bool.false_eq_true, if_false]
  rw [State.pushAll, List.append_nil]

/-- Settles O36: edges by the open period, values by the channel, and the window after a good and after a bad capture. -/
theorem edgesMakeCaptures : Obligations.EdgesMakeCaptures := by
  unfold Obligations.EdgesMakeCaptures
  refine ⟨fun s m v hr hd => ?_, fun s m span hm period high => ⟨?_, ?_⟩, fun s period high => rfl, fun s m =>
    ⟨fun x hlength => ⟨fun hno => ?_, fun hyes => ?_⟩, fun hfew => ?_, fun hmany hposts => ?_, fun hmany hno => ?_⟩⟩
  · have htakes : s.takesEdges = true := decide_eq_true hd
    have hrising : exec (.captureRisingEdge m) s = .next (s.risingEdge m).finishEvent := exec_event_due rfl htakes hr
    refine ⟨fun hnone => ?_, fun p hp => ?_, fun rise hrise => ?_, fun hv hlimit => ?_⟩
    · rw [hrising, State.risingEdge, State.closePeriod_of_none hnone]
    · rw [hrising, State.risingEdge]
      cases hx : s.captureValue m (s.counter - p.rise).toNat (p.fall.map fun f => (f - p.rise).toNat) with
      | none => rw [State.closePeriod_of_bad hp hx]
      | some x => rw [State.closePeriod_of_good hp hx]
    · rw [exec_event_due (c := .captureFallingEdge m) rfl htakes hr, State.fallingEdge_of_rise hrise]
    · have hdue : s.lostDue m = true := timerAt_some hv hlimit
      rw [exec_event_due (c := .lostExpiry m) rfl hdue hr]
      rfl
  · obtain ⟨rfl, rfl⟩ | ⟨rfl, rfl⟩ := hm <;> rfl
  · obtain ⟨rfl, rfl⟩ | ⟨rfl, rfl⟩ := hm <;> exact dutyCapture_of_high _ _ _
  · have hgood := Capture.good_eq (r := s.capture m) (x := x) rfl hlength
    rw [State.goodCapture_plain (by rw [hgood]; simpa using hno), hgood]
  · have hgood := Capture.good_eq (r := s.capture m) (x := x) rfl hlength
    rw [State.goodCapture_recovers (by rw [hgood]; simpa using hyes), hgood, Capture.ends, List.append_assoc]
  · have hbump : (s.capture m).bump.bad < 3 := by rw [Capture.bump_eq]; exact hfew
    rw [State.badCapture_of_few hbump, Capture.bump_eq]
  · have hbump : 3 ≤ (s.capture m).bump.bad := by rw [Capture.bump_eq]; exact hmany
    rw [State.badCapture_posts hbump hposts, Capture.bump_eq]
  · have hbump : 3 ≤ (s.capture m).bump.bad := by rw [Capture.bump_eq]; exact hmany
    rw [State.badCapture_silent hbump hno, Capture.bump_eq]

end Sys2Proof.Machine

/-! O37 to O40: the end of STARTUP, the battery, the slow timers and the wakes. -/

namespace Sys2Proof.Machine

variable {s : State} {m : Sensor}

/-! ### The end of STARTUP -/

/-- What a channel posts at the end of STARTUP (R77). -/
def Capture.settlePosts (r : Capture) (m : Sensor) : List Arrival :=
  if r.valid = true then
    (if r.rangeFlag = true then [Arrival.conditionEnd .sensorRange (.sensor m)] else [])
      ++ (if r.lostFlag = true then [Arrival.conditionEnd .sensorLost (.sensor m)] else [])
  else if r.bad = 3 ∧ r.rangeFlag = false then [Arrival.occurrence .sensorRange (.sensor m)]
  else []

/-- A channel's record after the end of STARTUP (R77). -/
def Capture.settled (r : Capture) : Capture :=
  { r with
    lost := some 0
    rangeFlag := if r.valid = true then false else if r.bad = 3 then true else r.rangeFlag
    lostFlag := if r.valid = true then false else r.lostFlag }

theorem State.settleCapture_eq :
    s.settleCapture m = (s.setCapture m (s.capture m).settled).pushAll ((s.capture m).settlePosts m) := by
  unfold State.settleCapture Capture.settled Capture.settlePosts
  by_cases hvalid : (s.capture m).valid = true
  · simp only [if_pos hvalid]; rfl
  · simp only [if_neg hvalid, Bool.and_eq_true, decide_eq_true_eq, Bool.not_eq_true']
    by_cases hbad : (s.capture m).bad = 3
    · by_cases hflag : (s.capture m).rangeFlag = false
      · rw [if_pos ⟨hbad, hflag⟩, if_pos hbad, if_pos ⟨hbad, hflag⟩]; rfl
      · rw [if_neg fun h => hflag h.2, if_pos hbad, if_neg fun h => hflag h.2, State.pushAll, List.append_nil,
          show true = (s.capture m).rangeFlag from (Bool.not_eq_false _ ▸ hflag : (s.capture m).rangeFlag = true).symm]
    · rw [if_neg fun h => hbad h.1, if_neg hbad, if_neg fun h => hbad h.1, State.pushAll, List.append_nil]

/-- What the ESTOP flag's settling posts (R145). -/
def State.estopPosts (s : State) : List Arrival :=
  if s.asserted .estop = true ∧ s.device.estopFlag = false then [Arrival.occurrence .estop .none]
  else if s.deasserted .estop = true ∧ s.device.estopFlag = true then [Arrival.conditionEnd .estop .none]
  else []

theorem State.settleEstop_eq : s.settleEstop = ({ s with device := { s.device with
    estopFlag := if s.asserted .estop = true then true else if s.deasserted .estop = true then false
      else s.device.estopFlag } }).pushAll s.estopPosts := by
  unfold State.settleEstop State.estopPosts
  simp only [Bool.and_eq_true, Bool.not_eq_true']
  by_cases hon : s.asserted .estop = true
  · have hoff : ¬s.deasserted .estop = true := fun h => by
      rw [State.not_deasserted_of_asserted h] at hon; cases hon
    cases hflag : s.device.estopFlag <;> simp [hon, hoff, State.pushAll, State.push]; rw [← hflag]
  · by_cases hoff : s.deasserted .estop = true
    · cases hflag : s.device.estopFlag <;> simp [hon, hoff, State.pushAll, State.push]; rw [← hflag]
    · simp [hon, hoff, State.pushAll]

/-- A channel settles in a state of which only the captures and the arrivals have moved. -/
theorem State.settleCapture_on (captures : Table Capture 3) (agenda : List Arrival) :
    ({ s with captures := captures, agenda := agenda }).settleCapture m
      = { s with
          captures := captures.set m.ix (captures.get m.ix).settled
          agenda := agenda ++ (captures.get m.ix).settlePosts m } := by
  rw [State.settleCapture_eq]
  rfl

/-- The three channels settle one after another, each its own record. -/
theorem State.settleCaptures_eq : Sensor.all.foldl State.settleCapture s = { s with
    captures := ((s.captures.set Sensor.height.ix (s.capture .height).settled).set Sensor.tilt.ix (s.capture .tilt).settled).set
      Sensor.pressure.ix (s.capture .pressure).settled
    agenda := s.agenda ++ (s.capture .height).settlePosts .height ++ (s.capture .tilt).settlePosts .tilt
      ++ (s.capture .pressure).settlePosts .pressure } := by
  have hfirst : s.settleCapture .height = { s with
      captures := s.captures.set Sensor.height.ix (s.capture .height).settled
      agenda := s.agenda ++ (s.capture .height).settlePosts .height } := State.settleCapture_eq
  have htilt : (s.captures.set Sensor.height.ix (s.capture .height).settled).get Sensor.tilt.ix = s.capture .tilt :=
    Table.get_set_ne _ _ (by decide)
  have hpressure : ((s.captures.set Sensor.height.ix (s.capture .height).settled).set Sensor.tilt.ix
      (s.capture .tilt).settled).get Sensor.pressure.ix = s.capture .pressure := by
    rw [Table.get_set_ne _ _ (by decide), Table.get_set_ne _ _ (by decide)]
    rfl
  rw [Sensor.all, List.foldl_cons, List.foldl_cons, List.foldl_cons, List.foldl_nil]
  rw [hfirst, State.settleCapture_on (s := s) (m := .tilt), htilt, State.settleCapture_on (s := s) (m := .pressure), hpressure]

theorem State.settledCapture_get (m : Sensor) :
    (((s.captures.set Sensor.height.ix (s.capture .height).settled).set Sensor.tilt.ix (s.capture .tilt).settled).set
      Sensor.pressure.ix (s.capture .pressure).settled).get m.ix = (s.capture m).settled := by
  simp only [Table.get_set, sensor_ix_inj]
  cases m <;> rfl

/-- The end of STARTUP, whole. -/
theorem State.endStartup_eq : s.endStartup = { s with
    captures := ((s.captures.set Sensor.height.ix (s.capture .height).settled).set Sensor.tilt.ix (s.capture .tilt).settled).set
      Sensor.pressure.ix (s.capture .pressure).settled
    permit := { s.permit with standstill := true, lastRise := none, quiet := some 0 }
    device := { s.device with
      state := s.stateAfterStartup, startup := none, prior := none, dormancy := some 0
      estopFlag := if s.asserted .estop = true then true else if s.deasserted .estop = true then false
        else s.device.estopFlag }
    agenda := s.agenda ++ (s.capture .height).settlePosts .height ++ (s.capture .tilt).settlePosts .tilt
      ++ (s.capture .pressure).settlePosts .pressure ++ s.estopPosts ++ [.hatchMoved .kerbside, .hatchMoved .offside] } := by
  unfold State.endStartup
  rw [State.settleCaptures_eq, State.settleEstop_eq]
  rfl

/-- Settles O37: the state after the end of STARTUP, field by field. -/
theorem startupEnds : Obligations.StartupEnds := by
  unfold Obligations.StartupEnds
  intro s v hr hstate hv hlimit
  have hdue : s.startupDue = true := by
    rw [State.startupDue, timerAt_some hv (show ms 100 ≤ v from hlimit), hstate]; rfl
  refine ⟨exec_event_due rfl hdue hr, ?_, ?_, fun m => ?_, ?_, ?_⟩
  · rw [State.endStartup_eq]; rfl
  · rw [State.endStartup_eq]
  · have hcaptures : s.endStartup.capture m = (s.capture m).settled := by
      rw [State.endStartup_eq]; exact State.settledCapture_get m
    exact hcaptures
  · rw [State.endStartup_eq]; rfl
  · rw [State.endStartup_eq]

/-! ### The battery -/

theorem State.takeZone_defined {z : Zone} (hd : s.supply.defined = true) (hz : z ≠ s.supply.zone) :
    s.takeZone z = ({ s with supply := { s.supply with zone := z, defined := true } }).pushAll
      ((if z = Zone.low then [Arrival.occurrence .lowSupply .none]
        else if s.supply.zone = Zone.low then [Arrival.conditionEnd .lowSupply .none] else []) ++ [Arrival.round]) := by
  unfold State.takeZone State.zonePosts
  rw [if_pos hd, if_neg hz, if_neg hz]

theorem State.takeZone_undefined {z : Zone} (hd : s.supply.defined = false) :
    s.takeZone z = ({ s with supply := { s.supply with zone := z, defined := true } }).pushAll
      ((if z ≠ Zone.low then [Arrival.conditionEnd .lowSupply .none]
        else if Config.firstLowPosts && !s.hasEntry .lowSupply .none then [Arrival.occurrence .lowSupply .none] else [])
        ++ if z = s.supply.zone then [] else [Arrival.round]) := by
  unfold State.takeZone State.zonePosts
  rw [if_neg (by simp [hd])]

/-- Settles O38: the window, then the brown-out, then the zone and what its change posts. -/
theorem batterySamples : Obligations.BatterySamples := by
  unfold Obligations.BatterySamples
  refine ⟨fun s v mv hr hv hlimit hlength => ?_, fun v => ⟨fun h => if_pos h, fun h h' => ?_, fun h => ?_⟩,
    fun v => ⟨fun h => ?_, fun h h' => ?_, fun h => ?_, fun h => ?_, fun h h' => ?_, fun h => ?_, fun h => ?_, fun h h' => ?_,
      fun h => ?_⟩, fun s z => ⟨fun hd hz => ?_, fun hd hz hlow => ?_, fun hd hz hwas => ?_, fun hd hz hlow hwas => ?_,
      fun hd hlow => ?_, fun hd hlow => ?_⟩⟩
  · have hsample : exec (.batterySample mv) s = .next (s.takeSample mv.toNat).finishEvent :=
      exec_event_due rfl (timerAt_some hv hlimit) hr
    intro w s1
    have htaken : s.takeSample mv.toNat = if w.length < 8 then s1
        else if s1.batteryAverage < 16000 then s1.resetPart .brownOut
        else s1.takeZone (if s.supply.defined then nextZone s.supply.zone s1.batteryAverage
          else firstZone s1.batteryAverage) := by
      unfold State.takeSample
      rw [pushWindow_eq _ (by decide) hlength]
    have haverage : w.length = 8 → s1.batteryAverage = w.sum / 8 := fun hw => by
      rw [State.batteryAverage_eq]
      exact congrArg (w.sum / ·) hw
    refine ⟨fun hw => ?_, fun hw hlow => ?_, fun hw hhigh => ?_⟩
    · rw [hsample, htaken, if_pos hw]
    · rw [hsample, htaken, if_neg (by omega), haverage hw, if_pos hlow]
    · rw [hsample, htaken, if_neg (by omega), haverage hw, if_neg (Nat.not_lt.mpr hhigh)]
  · rw [firstZone, if_neg (by omega), if_pos h]
  · rw [firstZone, if_neg (by omega), if_neg (by omega)]
  · exact if_pos h
  · rw [nextZone, if_neg (by omega), if_pos h']
  · rw [nextZone, if_neg (by omega), if_neg (by omega)]
  · rw [nextZone, if_neg (by omega), if_pos h]
  · rw [nextZone, if_neg (by omega), if_neg (by omega)]
  · exact if_pos h
  · rw [nextZone, if_neg (by omega), if_neg (by omega)]
  · rw [nextZone, if_neg (by omega), if_pos h]
  · exact if_pos h
  · unfold State.takeZone State.zonePosts
    rw [if_pos hd, if_pos hz, if_pos hz, State.pushAll, List.append_nil, List.append_nil]
  · rw [State.takeZone_defined hd hz, if_pos hlow]; rfl
  · rw [State.takeZone_defined hd hz, if_neg fun h => hz (h.trans hwas.symm), if_pos hwas]; rfl
  · rw [State.takeZone_defined hd hz, if_neg hlow, if_neg hwas]; rfl
  · rw [State.takeZone_undefined hd, if_pos hlow]; rfl
  · rw [State.takeZone_undefined hd, if_neg (not_not.mpr hlow)]
    simp only [Bool.and_eq_true, Bool.not_eq_true']

/-! ### The slow timers -/

theorem State.dormancyDelay_eq : s.dormancyDelay = 60000000 * s.tables.timing.dormancy := by
  simp only [State.dormancyDelay, ms]; omega

theorem ChanRec.take_off_eq (r : ChanRec) :
    r.take .off = if r.drive = .tripped then r else ⟨.off, 0, 0, none, none, false⟩ := by
  unfold ChanRec.take
  cases r.drive <;> rfl

/-- DORMANT entry, with the records of every block written out. -/
theorem State.enterDormant_eq : s.enterDormant = { s with
    device := { s.device with
      state := .dormant, prior := some s.device.state, dormancy := none
      ignWatch := if (s.setup .ign).polarity.asserts (s.input .ign).level = true then some 0 else none }
    inputs := s.inputs.map fun r => { r with debounced := none, timer := none }
    permit := { s.permit with
      standstill := false, lastRise := none, quiet := none, hatch := Table.fill 2 .between, conds := Table.fill 18 false }
    captures := s.captures.map fun r => { r with openPeriod := none, window := [], bad := 0, valid := false, lost := none }
    lamps := s.lamps.map fun r => { resetLamp with proven := if r.proven = .failed then .failed else .unknown }
    bank := {
      requests := Table.fill 12 .off
      channels := s.bank.channels.map fun r => if r.drive = .tripped then r else ⟨.off, 0, 0, none, none, false⟩ }
    supply := ⟨[], .low, false, none, none⟩
    stuck := { s.stuck with timer := none }
    links := s.links.map fun r => { r with rx := .hunt, gap := none, sending := none, waiting := none } } := by
  have hchannels : (fun r : ChanRec => r.take .off)
      = fun r => if r.drive = .tripped then r else ⟨.off, 0, 0, none, none, false⟩ := funext ChanRec.take_off_eq
  rw [← hchannels]
  rfl

/-- A stopped oscillator departs from every nominal count. -/
theorem clockBad_zero : clockBad 0 = true := by simp [clockBad, Config.nominalCount]

/-- Settles O39: the three timers' events, the dormancy test and DORMANT entry. -/
theorem slowTimers : Obligations.SlowTimers := by
  unfold Obligations.SlowTimers
  refine ⟨fun s v hr => ⟨fun n hv hlimit => ?_, fun hv hlimit => ?_, fun hstate hv hlimit => ?_, fun hv hlimit => ?_⟩,
    fun s => rfl, fun s => ?_, fun s => State.enterDormant_eq⟩
  · rw [exec_event_due (c := .clockComparison n) rfl (timerAt_some hv hlimit) hr, State.compareClock, clockBad]
    simp only [decide_eq_true_eq]
  · rw [exec_event_due (c := .clockComparison 0) rfl (timerAt_some hv hlimit) hr, State.compareClock, if_pos clockBad_zero]
  · have hdue : s.ownerDue = true := by
      rw [State.ownerDue, timerAt_some hv (show ms 30000 ≤ v from hlimit), hstate]; rfl
    exact exec_event_due rfl hdue hr
  · have hdue : s.dormancyDue = true := timerAt_some hv (by rw [State.dormancyDelay_eq]; exact hlimit)
    rw [exec_event_due (c := .dormancyTimerExpiry) rfl hdue hr, State.finishEvent, State.testDormancy]
  · rw [State.mayDoze_iff, State.slotsIdle_iff, State.contextsIdle_iff, State.lampsQuiet_iff, State.dormancyDelay_eq, timerAt_iff]

/-! ### The wakes -/

/-- Settles O40: the wakes, and the edges that captures take again. -/
theorem wakesBeginStartup : Obligations.WakesBeginStartup := by
  unfold Obligations.WakesBeginStartup
  refine fun s l v hr => ⟨fun hd hrole => ?_, fun hd hv hlimit => ?_, fun hd => ?_, fun hv hlimit => ?_, rfl, rfl,
    fun b => ⟨fun i => Table.get_map _ _ _, rfl⟩, fun m => ⟨fun hd => ⟨?_, ?_⟩, fun b hopen => ?_⟩⟩
  · have hdue : s.startBitWakes l = true := by simp [State.startBitWakes, hd, hrole]
    exact exec_event_due rfl hdue hr
  · have hdue : s.ignDue = true := by
      rw [State.ignDue, timerAt_some hv (show ms 20 ≤ v from hlimit), hd]; rfl
    exact exec_event_due rfl hdue hr
  · exact exec_event_due rfl (decide_eq_true hd) hr
  · exact exec_event_due rfl (timerAt_some hv hlimit) hr
  · have hno : s.takesEdges = false := decide_eq_false (not_not.mpr hd)
    exact exec_event_waits (u := s.risingEdge m) (congrArg (fun b => some (b, s.risingEdge m)) hno)
  · have hno : s.takesEdges = false := decide_eq_false (not_not.mpr hd)
    exact exec_event_waits (u := s.fallingEdge m) (congrArg (fun b => some (b, s.fallingEdge m)) hno)
  · have hopen' : ((s.wake b).capture m).openPeriod = none := hopen
    rw [exec_event_due (c := .captureRisingEdge m) (s := s.wake b) rfl rfl hr, State.risingEdge, State.closePeriod_of_none hopen']
    rfl

end Sys2Proof.Machine

/-! O41: STOP_ALL, RESUME, the movement rule, and STOPPED entry at every block. -/

namespace Sys2Proof.Machine

variable {s : State} {l : Link} {a b : Actuator}

/-! ### STOPPED entry at one context and at one slot -/

/-- What STOPPED entry leaves of one context's record (R113). -/
def Context.stoppedRecord (r : Context) : Context :=
  if r.state = .idle then r
  else { r with
    state := .idle, result := .stopped, owner := none, held := false, phase := .none, stepTimer := none
    holdTimer := none, pauseTimer := none }

theorem State.stopContext_eq (c : Ctx) : s.stopContext c = s.setContext c (s.context c).stoppedRecord := by
  unfold State.stopContext Context.running Context.stoppedRecord
  by_cases h : (s.context c).state = .idle
  · rw [if_neg (by simp [h]), if_pos h]
    exact congrArg (fun t => { s with contexts := t }) (Table.set_get_self s.contexts c).symm
  · rw [if_pos (by simp [h]), if_neg h]
    rfl

theorem State.context_stopContexts (c : Ctx) : (((s.stopContext 0).stopContext 1).context c) = (s.context c).stoppedRecord := by
  rw [State.stopContext_eq 1, State.stopContext_eq 0]
  simp only [State.context_setContext]
  obtain rfl | rfl := Ctx.eq_zero_or_one c <;> rfl

theorem State.stopContexts_rest : (s.stopContext 0).stopContext 1
    = { s with contexts := ((s.stopContext 0).stopContext 1).contexts } := by
  rw [State.stopContext_eq 1, State.stopContext_eq 0]
  rfl

theorem State.completeRecord_rest (o : Ending) : s.completeRecord a o = { s with
    slots := (s.completeRecord a o).slots, arbiter := (s.completeRecord a o).arbiter
    profile := (s.completeRecord a o).profile, agenda := (s.completeRecord a o).agenda } := by
  unfold State.completeRecord State.releaseGrant State.leaveCallList State.stopProfile
  dsimp only
  repeat' split
  all_goals rfl

theorem State.stopSlot_of_idle (h : (s.slot a).state = .idle) : s.stopSlot a = s := by
  unfold State.stopSlot; simp only [h]

theorem State.stopSlot_of_blocked (h : (s.slot a).state = .blocked) : s.stopSlot a =
    (s.setSlot a { s.slot a with state := .idle, watch := LinkTimers.none }).push (.slotFree a) := by
  unfold State.stopSlot; simp only [h]

theorem State.stopSlot_of_motion (h : (s.slot a).state ≠ .idle) (h' : (s.slot a).state ≠ .blocked) :
    s.stopSlot a = s.complete a .stopped := by
  unfold State.stopSlot
  cases hs : (s.slot a).state
  case idle => exact absurd hs h
  case blocked => exact absurd hs h'
  all_goals simp only [hs]

/-- STOPPED entry at a slot changes slots, arbiter, profile, contexts and arrivals. -/
theorem State.stopSlot_rest : s.stopSlot a = { s with
    slots := (s.stopSlot a).slots, arbiter := (s.stopSlot a).arbiter, profile := (s.stopSlot a).profile
    contexts := (s.stopSlot a).contexts, agenda := (s.stopSlot a).agenda } := by
  by_cases hi : (s.slot a).state = .idle
  · rw [State.stopSlot_of_idle hi]
  by_cases hb : (s.slot a).state = .blocked
  · rw [State.stopSlot_of_blocked hb]; rfl
  · rw [State.stopSlot_of_motion hi hb, State.complete_rest, State.completeRecord_rest]

theorem State.profile_stopSlot : (s.stopSlot a).profile =
    if a = .lift ∧ (s.slot a).state ≠ .idle ∧ (s.slot a).state ≠ .blocked then ⟨0, none, none⟩ else s.profile := by
  by_cases hi : (s.slot a).state = .idle
  · rw [State.stopSlot_of_idle hi, if_neg fun h => h.2.1 hi]
  by_cases hb : (s.slot a).state = .blocked
  · rw [State.stopSlot_of_blocked hb, if_neg fun h => h.2.2 hb]; rfl
  · rw [State.stopSlot_of_motion hi hb, (State.complete_arbiter a .stopped).2, State.completeRecord_profile]
    simp [hi, hb]

/-- What has been handed on stays, and a slot that was not IDLE is handed on as free. -/
theorem State.agenda_stopSlot : ∃ xs, (s.stopSlot a).agenda = s.agenda ++ xs
    ∧ ((s.slot a).state ≠ .idle → .slotFree a ∈ xs) := by
  by_cases hi : (s.slot a).state = .idle
  · exact ⟨[], by rw [State.stopSlot_of_idle hi, List.append_nil], fun h => absurd hi h⟩
  by_cases hb : (s.slot a).state = .blocked
  · exact ⟨[.slotFree a], by rw [State.stopSlot_of_blocked hb]; rfl, fun _ => List.mem_singleton.mpr rfl⟩
  · have hfree : (s.slot a).endsBlocked .stopped = false := by simp [Slot.endsBlocked]
    have hrecord := State.agenda_completeRecord (s := s) (a := a) .stopped
    simp only [hfree, Bool.false_eq_true, if_false, List.append_assoc] at hrecord
    rw [State.stopSlot_of_motion hi hb]
    cases hreport : (s.slot a).reportCtx with
    | none =>
      rw [(State.complete_of_report .stopped).2 hreport, hrecord]
      exact ⟨_, rfl, fun _ => by simp⟩
    | some c =>
      obtain ⟨xs, hxs⟩ := State.agenda_judgeReport (s := s.completeRecord a .stopped) (a := a) c
        ((s.slot a).finalOutcome .stopped)
      rw [(State.complete_of_report .stopped).1 c hreport, hxs, hrecord, List.append_assoc]
      exact ⟨_, rfl, fun _ => by simp⟩

theorem State.SupplyAgrees.stopSlot (h : s.SupplyAgrees) : (s.stopSlot a).SupplyAgrees := by
  by_cases hi : (s.slot a).state = .idle
  · rw [State.stopSlot_of_idle hi]; exact h
  by_cases hb : (s.slot a).state = .blocked
  · rw [State.stopSlot_of_blocked hb]
    exact State.SupplyAgrees.setSlot (r := { s.slot a with state := .idle, watch := LinkTimers.none }) h (by simp [hb])
      (by simp [hb, SlotState.granted])
  · rw [State.stopSlot_of_motion hi hb, State.complete_rest]
    exact State.completeRecord_supplyAgrees h .stopped

/-! ### STOPPED entry at the slots, one after another -/

theorem State.slot_stopSlots : (Actuator.all.foldl State.stopSlot s).slot a = (s.slot a).stoppedRecord := by
  simp only [Actuator.all, List.foldl_cons, List.foldl_nil, State.slot_stopSlot]
  cases a <;> rfl

theorem State.profile_stopSlots : (Actuator.all.foldl State.stopSlot s).profile =
    if (s.slot .lift).state ≠ .idle ∧ (s.slot .lift).state ≠ .blocked then ⟨0, none, none⟩ else s.profile := by
  simp only [Actuator.all, List.foldl_cons, List.foldl_nil]
  rw [State.profile_stopSlot, if_neg (by simp), State.profile_stopSlot, if_neg (by simp), State.profile_stopSlot,
    if_neg (by simp), State.profile_stopSlot]
  simp

theorem State.stopSlots_rest (xs : List Actuator) : xs.foldl State.stopSlot s = { s with
    slots := (xs.foldl State.stopSlot s).slots, arbiter := (xs.foldl State.stopSlot s).arbiter
    profile := (xs.foldl State.stopSlot s).profile, contexts := (xs.foldl State.stopSlot s).contexts
    agenda := (xs.foldl State.stopSlot s).agenda } := by
  induction xs generalizing s with
  | nil => rfl
  | cons x xs ih => rw [List.foldl_cons, ih, State.stopSlot_rest]

theorem State.context_stopSlots (h : ∀ c, (s.context c).state = .idle) (xs : List Actuator) (c : Ctx) :
    (xs.foldl State.stopSlot s).context c = s.context c := by
  induction xs generalizing s with
  | nil => rfl
  | cons x xs ih =>
    rw [List.foldl_cons, ih (s := s.stopSlot x) fun c => by rw [State.context_stopSlot h]; exact h c, State.context_stopSlot h]

theorem State.mem_agenda_stopSlots {x : Arrival} (h : x ∈ s.agenda) (xs : List Actuator) :
    x ∈ (xs.foldl State.stopSlot s).agenda := by
  induction xs generalizing s with
  | nil => exact h
  | cons y xs ih =>
    obtain ⟨ys, hys, -⟩ := State.agenda_stopSlot (s := s) (a := y)
    exact ih (s := s.stopSlot y) (by rw [hys]; exact List.mem_append_left _ h)

/-- Every slot that was not IDLE is handed on as free (R104). -/
theorem State.slotFree_mem_stopSlots (h : (s.slot a).state ≠ .idle) {xs : List Actuator} (ha : a ∈ xs) :
    .slotFree a ∈ (xs.foldl State.stopSlot s).agenda := by
  induction xs generalizing s with
  | nil => cases ha
  | cons x xs ih =>
    rw [List.foldl_cons]
    by_cases hx : x = a
    · subst hx
      obtain ⟨ys, hys, hfree⟩ := State.agenda_stopSlot (s := s) (a := x)
      exact State.mem_agenda_stopSlots (by rw [hys]; exact List.mem_append_right _ (hfree h)) xs
    · refine ih (s := s.stopSlot x) ?_ ((List.mem_cons.mp ha).resolve_left (Ne.symm hx))
      rw [State.slot_stopSlot, if_neg hx]
      exact h

/-! ### STOPPED entry -/

/-- The contexts have stopped, and the device state is STOPPED. -/
def State.runsStopped (s : State) : State := ((s.setDeviceState .stopped).stopContext 0).stopContext 1

/-- The arbiter is emptied (R33). -/
def State.emptied (s : State) : State :=
  { s with arbiter := { s.arbiter with callList := [], prime := Table.fill 4 .stopped } }

/-- STOPPED entry: the contexts, then the slots, then the arbiter. -/
theorem State.enterStopped_eq : ∃ t, Actuator.all.foldl State.stopSlot s.runsStopped = t ∧ s.enterStopped = t.emptied := by
  refine ⟨_, rfl, ?_⟩
  unfold State.enterStopped State.runsStopped State.emptied
  dsimp only

theorem State.runsStopped_rest : s.runsStopped = { s with
    device := { s.device with state := .stopped }, contexts := s.runsStopped.contexts } := State.stopContexts_rest

theorem State.runsStopped_context (c : Ctx) : s.runsStopped.context c = (s.context c).stoppedRecord :=
  State.context_stopContexts (s := s.setDeviceState .stopped) c

theorem State.runsStopped_slot : s.runsStopped.slot a = s.slot a := by rw [State.runsStopped_rest]; rfl

theorem Context.stoppedRecord_idle (r : Context) : r.stoppedRecord.state = .idle := by
  unfold Context.stoppedRecord
  split
  next h => exact h
  next => rfl

theorem State.enterStopped_slot : s.enterStopped.slot a = (s.slot a).stoppedRecord := by
  obtain ⟨t, ht, he⟩ := s.enterStopped_eq
  have h := State.slot_stopSlots (s := s.runsStopped) (a := a)
  rw [ht, State.runsStopped_slot] at h
  rw [he]
  exact h

theorem State.enterStopped_context (c : Ctx) : s.enterStopped.context c = (s.context c).stoppedRecord := by
  obtain ⟨t, ht, he⟩ := s.enterStopped_eq
  have h := State.context_stopSlots (s := s.runsStopped)
    (fun c => by rw [State.runsStopped_context]; exact Context.stoppedRecord_idle _) Actuator.all c
  rw [ht, State.runsStopped_context] at h
  rw [he]
  exact h

theorem State.slotFree_mem_enterStopped (h : (s.slot a).state ≠ .idle) : .slotFree a ∈ s.enterStopped.agenda := by
  obtain ⟨t, ht, he⟩ := s.enterStopped_eq
  have hfree := State.slotFree_mem_stopSlots (s := s.runsStopped) (by rw [State.runsStopped_slot]; exact h) (Actuator.mem_all a)
  rw [ht] at hfree
  rw [he]
  exact hfree

theorem State.enterStopped_profile : s.enterStopped.profile =
    if (s.slot .lift).state ≠ .idle ∧ (s.slot .lift).state ≠ .blocked then ⟨0, none, none⟩ else s.profile := by
  obtain ⟨t, ht, he⟩ := s.enterStopped_eq
  have h := State.profile_stopSlots (s := s.runsStopped)
  have hprofile : s.runsStopped.profile = s.profile := by rw [State.runsStopped_rest]
  rw [ht, State.runsStopped_slot, hprofile] at h
  rw [he]
  exact h

theorem State.enterStopped_rest : s.enterStopped = { s with
    device := { s.device with state := .stopped }, slots := s.enterStopped.slots, arbiter := s.enterStopped.arbiter
    profile := s.enterStopped.profile, contexts := s.enterStopped.contexts, agenda := s.enterStopped.agenda } := by
  obtain ⟨t, ht, he⟩ := s.enterStopped_eq
  have h := State.stopSlots_rest (s := s.runsStopped) Actuator.all
  rw [ht, State.runsStopped_rest] at h
  rw [he, State.emptied, h]

theorem State.enterStopped_arbiter : s.enterStopped.arbiter.callList = [] ∧ ∀ a, s.enterStopped.prime a = .stopped := by
  obtain ⟨t, -, he⟩ := s.enterStopped_eq
  rw [he]
  exact ⟨rfl, fun a => Table.get_fill _ _⟩

theorem State.SupplyAgrees.enterStopped_free (h : s.SupplyAgrees) :
    (∀ c, s.enterStopped.grant c = none) ∧ s.enterStopped.arbiter.pumpOwner = none := by
  obtain ⟨t, ht, he⟩ := s.enterStopped_eq
  have hruns : s.runsStopped.SupplyAgrees := by rw [State.runsStopped_rest]; exact h
  have hslots : t.SupplyAgrees := ht ▸ foldl_preserves (P := State.SupplyAgrees) (fun _ _ h => h.stopSlot) _ _ hruns
  have hidle : ∀ a, (t.slot a).state = .idle := fun a => by
    have hrest := s.enterStopped_atRest.1 a
    rw [he] at hrest
    exact hrest
  obtain ⟨-, hgrant, hpump⟩ := hslots.of_idle hidle
  rw [he]
  exact ⟨hgrant, hpump⟩

/-! ### The requests -/

theorem stopAllRule_refusedState {ps : List Byte} (h : s.awake = false) : stopAllRule ps s = s.answer .refusedState :=
  if_pos (by simp [h])

theorem stopAllRule_badParam {ps : List Byte} (h : s.awake = true) (hps : ps ≠ []) : stopAllRule ps s = s.answer .badParam := by
  rw [stopAllRule, if_neg (by simp [h]), if_pos hps]

theorem stopAllRule_accepted (h : s.awake = true) :
    stopAllRule [] s = (if s.device.state = .ready then s.enterStopped.finish else s).answer .accepted := by
  rw [stopAllRule, if_neg (by simp [h]), if_neg (by simp)]
  split <;> rfl

theorem resumeRule_refusedState {ps : List Byte} (h : s.device.state ≠ .stopped) (h' : s.device.state ≠ .ready) :
    resumeRule ps s = s.answer .refusedState := by
  unfold resumeRule
  cases hs : s.device.state
  case ready => exact absurd hs h'
  case stopped => exact absurd hs h
  all_goals simp only

theorem resumeRule_badParam {ps : List Byte} (h : s.device.state = .stopped ∨ s.device.state = .ready) (hps : ps ≠ []) :
    resumeRule ps s = s.answer .badParam := by
  unfold resumeRule
  obtain h | h := h <;> simp only [h] <;> exact if_pos hps

theorem resumeRule_ready (h : s.device.state = .ready) : resumeRule [] s = s.answer .accepted := by
  unfold resumeRule
  simp only [h]
  exact if_neg (by simp)

theorem resumeRule_stopped (h : s.device.state = .stopped) : resumeRule [] s =
    if s.deasserted .estop = true ∧ s.cond .standstill = true then (s.setDeviceState .ready).finish.answer .accepted
    else s.answer .blocked := by
  unfold resumeRule
  simp only [h, ← Bool.and_eq_true]
  exact if_neg (by simp)

/-! ### The movement rule -/

theorem State.hatchOpen_iff : s.hatchOpen = true ↔ ∃ h, s.hatchPos h ≠ .shut := by
  simp only [State.hatchOpen, List.any_eq_true, decide_eq_true_eq]
  exact ⟨fun ⟨h, _, hh⟩ => ⟨h, hh⟩, fun ⟨h, hh⟩ => ⟨h, Hatch.mem_all h, hh⟩⟩

/-- A READY part rolls that is not at rest, stowed and shut (R148). -/
theorem State.rolls_iff : (decide (s.device.state = .ready) && !s.cond .standstill
      && (!s.slotsIdle || !s.cond .stowed || s.hatchOpen)) = true
    ↔ s.device.state = .ready ∧ s.cond .standstill = false
      ∧ ((∃ a, (s.slot a).state ≠ .idle) ∨ s.cond .stowed = false ∨ ∃ h, s.hatchPos h ≠ .shut) := by
  have hbusy : s.slotsIdle = false ↔ ∃ a, (s.slot a).state ≠ .idle := by
    rw [Bool.eq_false_iff, Ne, State.slotsIdle_iff, not_forall]
  simp only [Bool.and_eq_true, Bool.or_eq_true, decide_eq_true_eq, Bool.not_eq_true', and_assoc, or_assoc, hbusy,
    State.hatchOpen_iff]

/-- Settles O41: the requests by the device state, the movement rule, and what STOPPED entry does at each block. -/
theorem stopAllAndResume : Obligations.StopAllAndResume := by
  unfold Obligations.StopAllAndResume
  refine ⟨fun s l tag => ⟨fun hadm hawake => ?_, fun hadm hstate hestop hstand => ?_, fun hadm hstate hno => ?_,
      fun hadm hstate => ?_, fun ps => ⟨fun hadm => ⟨fun hawake => ?_, fun hawake hps => ?_⟩,
        fun hadm => ⟨fun hstopped hready => ?_, fun hstate hps => ?_⟩⟩⟩,
    fun s => ⟨fun hrolls => ?_, fun hno => ?_⟩, fun s => ?_⟩
  · have hrule := stopAllRule_accepted (s := s.withFrame l) hawake
    exact exec_answered rfl rfl hadm (.inl (State.not_startup_of_awake hawake)) hrule rfl
  · have hrule := resumeRule_stopped (s := s.withFrame l) hstate
    rw [State.deasserted_withFrame, State.cond_withFrame, if_pos ⟨hestop, hstand⟩] at hrule
    exact exec_answered rfl rfl hadm (.inl (by simp [hstate])) hrule rfl
  · have hrule := resumeRule_stopped (s := s.withFrame l) hstate
    rw [State.deasserted_withFrame, State.cond_withFrame, if_neg hno] at hrule
    exact exec_answered rfl rfl hadm (.inl (by simp [hstate])) hrule rfl
  · exact exec_answered rfl rfl hadm (.inl (by simp [hstate])) (resumeRule_ready (s := s.withFrame l) hstate) rfl
  · exact exec_refusedState rfl rfl hadm rfl (stopAllRule_refusedState (s := s.withFrame l) hawake) rfl
  · exact exec_answered rfl rfl hadm (.inl (State.not_startup_of_awake hawake))
      (stopAllRule_badParam (s := s.withFrame l) hawake hps) rfl
  · exact exec_refusedState rfl rfl hadm rfl (resumeRule_refusedState (s := s.withFrame l) hstopped hready) rfl
  · have hs : s.device.state ≠ .startup := by obtain h | h := hstate <;> rw [h] <;> decide
    exact exec_answered rfl rfl hadm (.inl hs) (resumeRule_badParam (s := s.withFrame l) hstate hps) rfl
  · exact if_pos (State.rolls_iff.mpr hrolls)
  · exact if_neg fun h => hno (State.rolls_iff.mp h)
  · refine ⟨fun a => ⟨fun hi => ?_, fun hb => ⟨?_, ?_⟩, fun hi hb => ⟨?_, ?_⟩⟩, fun c hi => ?_, fun c hi => ?_,
      State.enterStopped_arbiter.1, State.enterStopped_arbiter.2, fun h => h.enterStopped_free, ?_, fun hrest => ?_, fun hi hb => ?_,
      State.enterStopped_around s, ?_, ?_, ?_, ?_, State.enterStopped_faultTable s⟩
    · rw [State.enterStopped_slot, Slot.stoppedRecord, if_pos hi]
    · rw [State.enterStopped_slot, Slot.stoppedRecord, if_neg (by simp [hb]), if_pos hb]
    · exact State.slotFree_mem_enterStopped (by simp [hb])
    · rw [State.enterStopped_slot, Slot.stoppedRecord, if_neg hi, if_neg hb]
    · exact State.slotFree_mem_enterStopped hi
    · rw [State.enterStopped_context, Context.stoppedRecord, if_pos hi]
    · rw [State.enterStopped_context, Context.stoppedRecord, if_neg hi]
    · rw [State.enterStopped_rest]
    · rw [State.enterStopped_profile, if_neg fun h => hrest.elim h.1 h.2]
    · rw [State.enterStopped_profile, if_pos ⟨hi, hb⟩]
    all_goals rw [State.enterStopped_rest]

end Sys2Proof.Machine

/-! O43, O45 and O46: the runs of the two contexts. -/

namespace Sys2Proof.Machine

variable {s u : State} {l : Link} {tag x : Byte} {c : Ctx} {n : Fin 8} {first i : Fin 32} {a : Actuator} {o : Ending} {ps : List Byte}

@[simp] theorem Table.set_set {α : Type} {n : Nat} (t : Table α n) (i : Fin n) (x y : α) : (t.set i x).set i y = t.set i y := by
  refine Table.ext_get fun j => ?_
  simp only [Table.get_set]
  split <;> rfl

/-! ### Starting a run -/

theorem State.idleContext_zero (h : (u.context 0).state = .idle) : u.idleContext = some 0 := by
  simp [State.idleContext, List.finRange_succ, h]

theorem State.idleContext_one (h : (u.context 0).state ≠ .idle) (h1 : (u.context 1).state = .idle) : u.idleContext = some 1 := by
  simp [State.idleContext, List.finRange_succ, h, h1]

theorem State.idleContext_none (h : (u.context 0).state ≠ .idle) (h1 : (u.context 1).state ≠ .idle) : u.idleContext = none := by
  simp [State.idleContext, List.finRange_succ, h, h1]

/-- A SEQ_START of a present entry comes to the contexts. -/
theorem seqStartRule_of_entry (hready : u.device.state = .ready) (hx : indexOfByte 8 x = some n)
    (hfirst : (u.tables.entries.get n).first = some first) : seqStartRule l [x] u = u.takeSeqStart l n first := by
  unfold seqStartRule
  rw [if_neg (by simp [hready])]
  simp only [oneIndex, hx, hfirst]

/-- A context that is chosen takes the run. -/
theorem State.takeSeqStart_of_idle (hc : u.idleContext = some c) :
    u.takeSeqStart l n first = (u.startRun c n l first).finish.answerData [byte c.val] := by
  rw [State.takeSeqStart, hc]

theorem State.takeSeqStart_busy (hc : u.idleContext = none) : u.takeSeqStart l n first = u.answer .busy := by
  rw [State.takeSeqStart, hc]

/-! ### A step start -/

theorem State.tryStep_motion {m : MotionStep} (hi : (u.context c).step = some i) (hm : u.tables.steps.get i = .motion m) :
    u.tryStep c = (u.postMotion c m).2.takeAnswer c (u.postMotion c m).1 := by
  rw [State.tryStep, State.stepRecord_of_step hi, hm]

theorem State.tryStep_wait {w : WaitStep} (hi : (u.context c).step = some i) (hw : u.tables.steps.get i = .wait w) :
    u.tryStep c = if CondSet.within w.mask u.permit.conds then u.stepDone c true
      else u.setContext c { u.context c with phase := .conditions } := by
  rw [State.tryStep, State.stepRecord_of_step hi, hw]

theorem State.tryStep_empty (hi : (u.context c).step = some i) (he : u.tables.steps.get i = .empty) :
    u.tryStep c = u.stepDone c false := by
  rw [State.tryStep, State.stepRecord_of_step hi, he]

theorem State.moveCheck_ne_clamped {k : Stroke} {given : Option Nat} : u.moveCheck a k given ≠ .clamped := by
  unfold State.moveCheck
  split
  · nofun
  split
  · nofun
  split
  · nofun
  · exact State.slotCheck_ne_clamped

/-- The first check of a step's motion that fails is its answer; one that passes them all starts. -/
theorem State.postMotion_eq (u : State) (c : Ctx) (m : MotionStep) : u.postMotion c m =
    if u.moveCheck m.actuator m.stroke m.target = .accepted then
      (if u.targetClamped m.actuator m.target then .clamped else .accepted,
        u.enterWaiting m.actuator m.stroke (u.takenTarget m.actuator m.stroke m.target) m.gate (.owner (.ctx c)))
    else (u.moveCheck m.actuator m.stroke m.target, u) := by
  unfold State.postMotion State.moveCheck
  by_cases hstate : u.device.state = .ready
  case neg => rw [if_pos hstate, if_pos hstate, if_neg (by nofun)]
  rw [if_neg (not_not.mpr hstate), if_neg (not_not.mpr hstate)]
  by_cases hparams : u.motionParamsOk m.actuator m.stroke m.target (.owner (.ctx c)) = true
  case neg =>
    have hbad := not_not.mp fun h => hparams (State.motionParamsOk_owner.mpr h)
    simp only [hparams, if_pos hbad]
    rfl
  simp only [hparams, if_neg (State.motionParamsOk_owner.mp hparams), Bool.not_true, Bool.false_eq_true, if_false]
  by_cases hidle : (u.slot m.actuator).state = .idle
  case neg => rw [if_pos hidle, if_pos hidle, if_neg (by nofun)]
  rw [if_neg (not_not.mpr hidle), if_neg (not_not.mpr hidle)]
  by_cases hcheck : u.slotCheck m.actuator m.stroke m.target = .accepted
  case neg => rw [if_neg hcheck, State.takeMotion_refuses rfl hcheck]
  rw [if_pos hcheck]
  unfold State.slotCheck at hcheck
  split at hcheck
  · cases hcheck
  next hm =>
  split at hcheck
  · cases hcheck
  next hb =>
  split at hcheck
  · cases hcheck
  next he => exact State.takeMotion_starts (by simpa using hm) hb he

/-! ### The end of a step -/

/-- A step that is done follows its link, and where it has none the run ends. -/
theorem State.stepDone_follows {ok : Bool} {follow : Option (Fin 32)} (hi : (u.context c).step = some i)
    (hf : (∃ m, u.tables.steps.get i = .motion m ∧ follow = if ok = true then m.next else m.onFail)
      ∨ ∃ w, u.tables.steps.get i = .wait w ∧ follow = if ok = true then w.next else w.onFail) :
    (∀ j, follow = some j → u.stepDone c ok
        = (u.setContext c { u.context c with phase := .none, stepTimer := none }).push (.stepStart c j))
      ∧ (follow = none → u.stepDone c ok = u.endRun c (if ok = true then .done else .stepFailed)) := by
  have hended (r : RunResult) : (u.setContext c { u.context c with phase := .none, stepTimer := none }).endRun c r = u.endRun c r := by
    simp only [State.endRun, State.setContext, State.context, Table.get_set_self, Table.set_set]
  unfold State.stepDone
  rw [State.stepRecord_of_step hi]
  rcases hf with ⟨m, hm, rfl⟩ | ⟨w, hw, rfl⟩
  · simp only [hm]
    exact ⟨fun j hj => by rw [hj], fun hn => by rw [hn]; exact hended _⟩
  · simp only [hw]
    exact ⟨fun j hj => by rw [hj], fun hn => by rw [hn]; exact hended _⟩

/-- Settles O43: the requests and the step starts, check by check. -/
theorem sequencesStart : Obligations.SequencesStart := by
  unfold Obligations.SequencesStart
  refine ⟨fun s l tag x n first hx hadm hready hfirst => ?_, fun s c i => ⟨?_, ?_, ?_, ?_⟩, fun s c i hi => ⟨?_, ?_, ?_, ?_⟩,
    fun s c m => ?_, fun s c r => ⟨?_, ?_, ?_, ?_, ?_⟩, fun s c i ok follow hi hf => State.stepDone_follows hi hf,
    fun s c r => rfl⟩
  · have hrule : seqStartRule l [x] (s.withFrame l) = (s.withFrame l).takeSeqStart l n first :=
      seqStartRule_of_entry (u := s.withFrame l) hready hx hfirst
    have hserved : s.device.state ≠ .startup ∨ false = true := .inl (by simp [hready])
    refine ⟨fun h0 => ?_, fun h0 h1 => ?_, fun h0 h1 => ?_⟩
    · exact exec_answered rfl rfl hadm hserved
        (hrule.trans (State.takeSeqStart_of_idle (State.idleContext_zero (u := s.withFrame l) h0))) rfl
    · exact exec_answered rfl rfl hadm hserved
        (hrule.trans (State.takeSeqStart_of_idle (State.idleContext_one (u := s.withFrame l) h0 h1))) rfl
    · exact exec_answered rfl rfl hadm hserved
        (hrule.trans (State.takeSeqStart_busy (State.idleContext_none (u := s.withFrame l) h0 h1))) rfl
  · exact fun h => if_pos h
  · exact fun h hs => (if_neg (not_not.mpr h)).trans (if_pos hs)
  · exact fun h hs hn => (if_neg (not_not.mpr h)).trans ((if_neg (not_not.mpr hs)).trans (if_pos hn))
  · exact fun h hs hn => (if_neg (not_not.mpr h)).trans ((if_neg (not_not.mpr hs)).trans (if_neg (by omega)))
  · exact fun m hm => State.tryStep_motion hi hm
  · intro w hw hall
    rw [State.tryStep_wait hi hw, if_pos (CondSet.within_iff.mpr hall)]
  · intro w n hw hn hfalse
    rw [State.tryStep_wait hi hw, if_neg]
    intro h
    have hcond : s.cond n = true := CondSet.within_iff.mp h n hn
    simp [hcond] at hfalse
  · exact fun he => State.tryStep_empty hi he
  · intro a k target r
    have hr : r = if s.moveCheck a k m.target = .accepted then (if s.targetClamped a m.target then .clamped else .accepted)
        else s.moveCheck a k m.target := by
      show (if _ then _ else _) = _
      unfold State.moveCheck State.slotCheck
      split
      · rfl
      split
      · rfl
      split
      · rfl
      split
      · rfl
      split
      · rfl
      split <;> rfl
    rw [State.postMotion_eq]
    by_cases hcheck : s.moveCheck a k m.target = .accepted
    · rw [if_pos hcheck] at hr
      exact ⟨fun h h' => by rw [hr] at h h'; split at h <;> simp_all, fun _ => by rw [if_pos hcheck, hr]; rfl⟩
    · rw [if_neg hcheck] at hr
      exact ⟨fun _ _ => by rw [if_neg hcheck, hr],
        fun h => absurd h (hr ▸ not_or.mpr ⟨hcheck, State.moveCheck_ne_clamped⟩)⟩
  · rintro (rfl | rfl) <;> rfl
  · rintro rfl; rfl
  · rintro rfl; rfl
  · rintro rfl; rfl
  · intro hr
    simp only [List.mem_cons, List.not_mem_nil, or_false] at hr
    rcases hr with rfl | rfl | rfl <;> rfl

/-! ### SEQ_CANCEL, and what the sequence requests refuse -/

/-- R100 at a context's number in READY. -/
theorem seqCancelRule_ready (hx : indexOfByte 2 x = some c) (hready : u.device.state = .ready) :
    seqCancelRule l [x] u = u.takeSeqCancel l c := by
  simp [seqCancelRule, oneIndex, hx, hready]

theorem State.takeSeqCancel_idle (h : (u.context c).state = .idle) : u.takeSeqCancel l c = u.answer .accepted := if_pos h

theorem State.takeSeqCancel_mine (h : (u.context c).state ≠ .idle) (hmine : (u.context c).owner = some l ∨ (u.link l).role = .cab) :
    u.takeSeqCancel l c = (u.cancelRun c).finish.answer .accepted := (if_neg h).trans (if_pos hmine)

theorem State.takeSeqCancel_stranger (h : (u.context c).state ≠ .idle)
    (hmine : ¬((u.context c).owner = some l ∨ (u.link l).role = .cab)) : u.takeSeqCancel l c = u.answer .notOwner :=
  (if_neg h).trans (if_neg hmine)

/-- One byte below `m` is a number; other parameters are none. -/
theorem oneIndex_eq_none {m : Nat} (h : ∀ x, ps = [x] → indexOfByte m x = none) : oneIndex m ps = none := by
  unfold oneIndex
  split
  · exact h _ rfl
  · rfl

theorem seqStartRule_unnamed (hready : u.device.state = .ready)
    (h : ∀ x n, ps = [x] → indexOfByte 8 x = some n → (u.tables.entries.get n).first = none) :
    seqStartRule l ps u = u.answer .badParam := by
  unfold seqStartRule
  rw [if_neg (by simp [hready])]
  split
  next n hn =>
    have hfirst : (u.tables.entries.get n).first = none := by
      unfold oneIndex at hn
      split at hn
      · exact h _ _ rfl hn
      · cases hn
    simp only [hfirst]
  next => rfl

theorem seqHoldRule_unnamed (hready : u.device.state = .ready) (h : oneIndex 2 ps = none) :
    seqHoldRule l ps u = u.answer .badParam := by
  simp only [seqHoldRule, hready, h, ne_eq, not_true_eq_false, if_false]

theorem seqCancelRule_unnamed (hready : u.device.state = .ready) (h : oneIndex 2 ps = none) :
    seqCancelRule l ps u = u.answer .badParam := by
  simp only [seqCancelRule, hready, h, ne_eq, not_true_eq_false, if_false]

/-- Settles O45: the frame leaves the contexts as they were, so the sender and the context's state are read before it. -/
theorem sequenceCancels : Obligations.SequenceCancels := by
  unfold Obligations.SequenceCancels
  refine ⟨fun s l tag x c hx hadm hready => ?_, fun s l tag ps hadm => ⟨fun hstate => ?_, fun hready hps => ?_, fun hready hps => ?_⟩⟩
  · have hrule : seqCancelRule l [x] (s.withFrame l) = (s.withFrame l).takeSeqCancel l c :=
      seqCancelRule_ready (u := s.withFrame l) hx hready
    have hserved : s.device.state ≠ .startup ∨ false = true := .inl (by simp [hready])
    have hrole : ((s.withFrame l).link l).role = (s.link l).role := by
      rw [State.link_withFrame_self]; rfl
    refine ⟨fun hidle => ?_, fun hbusy hmine => ?_, fun hbusy hmine => ?_⟩
    · exact exec_answered rfl rfl hadm hserved (hrule.trans (State.takeSeqCancel_idle (u := s.withFrame l) hidle)) rfl
    · exact exec_answered rfl rfl hadm hserved
        (hrule.trans (State.takeSeqCancel_mine (u := s.withFrame l) hbusy (by rw [hrole]; exact hmine))) rfl
    · exact exec_answered rfl rfl hadm hserved
        (hrule.trans (State.takeSeqCancel_stranger (u := s.withFrame l) hbusy (by rw [hrole]; exact hmine))) rfl
  · have hstate' : (s.withFrame l).device.state ≠ .ready := hstate
    exact ⟨exec_refusedState rfl rfl hadm rfl (if_pos hstate') rfl, exec_refusedState rfl rfl hadm rfl (if_pos hstate') rfl,
      exec_refusedState rfl rfl hadm rfl (if_pos hstate') rfl⟩
  · exact exec_answered rfl rfl hadm (.inl (by simp [hready])) (seqStartRule_unnamed (u := s.withFrame l) hready hps) rfl
  · have hnone := oneIndex_eq_none hps
    exact ⟨exec_answered rfl rfl hadm (.inl (by simp [hready])) (seqHoldRule_unnamed (u := s.withFrame l) hready hnone) rfl,
      exec_answered rfl rfl hadm (.inl (by simp [hready])) (seqCancelRule_unnamed (u := s.withFrame l) hready hnone) rfl⟩

/-! ### The timers of a run -/

theorem ms_hundreds (n : Nat) : ms (100 * n) = 100000 * n := by
  simp only [ms]; omega

/-- A context reads its step from the live table. -/
theorem State.step_of_motion {m : MotionStep} (hi : (s.context c).step = some i) (hm : s.tables.steps.get i = .motion m) :
    s.stepActuator c = some m.actuator ∧ s.stepLimit c = 100000 * m.limit := by
  unfold State.stepActuator State.stepLimit
  rw [State.stepRecord_of_step hi, hm]
  exact ⟨rfl, ms_hundreds _⟩

theorem State.step_of_wait {w : WaitStep} (hi : (s.context c).step = some i) (hw : s.tables.steps.get i = .wait w) :
    s.stepActuator c = none ∧ s.stepLimit c = 100000 * w.limit := by
  unfold State.stepActuator State.stepLimit
  rw [State.stepRecord_of_step hi, hw]
  exact ⟨rfl, ms_hundreds _⟩

/-- The context whose motion in hand a report is about judges it (R105). -/
theorem State.judgeReport_eq : s.judgeReport c a o =
    if (s.context c).state = .active ∧ (s.context c).phase = .inMotion ∧ s.stepActuator c = some a then
      if o = .stopped then s.endRun c .stopped else s.stepDone c (decide (o = .reached))
    else s := by
  simp only [State.judgeReport, Bool.and_eq_true, decide_eq_true_eq, and_assoc]

theorem State.waitsForSlot_iff : s.waitsForSlot c a = true ↔
    (s.context c).state = .active ∧ (s.context c).phase = .slotBusy ∧ s.stepActuator c = some a := by
  simp only [State.waitsForSlot, Bool.and_eq_true, decide_eq_true_eq, and_assoc]

/-- The WAIT step a context is in: its index and its record. -/
def State.WaitsIn (s : State) (c : Ctx) (i : Fin 32) (w : WaitStep) : Prop :=
  (s.context c).step = some i ∧ s.tables.steps.get i = .wait w

theorem State.stepRecord_wait_iff {w : WaitStep} : s.stepRecord c = .wait w ↔ ∃ i, s.WaitsIn c i w := by
  unfold State.stepRecord State.WaitsIn
  split
  next i hi => simp [hi]
  next hnone => simp [hnone]

theorem State.contextCondition_passes {w : WaitStep} {n : Cond} (hactive : (s.context c).state = .active)
    (hphase : (s.context c).phase = .conditions) (hi : s.WaitsIn c i w) (hn : w.mask.has n = true)
    (hall : ∀ x, w.mask.has x = true → s.cond x = true) : s.contextCondition c n = s.stepDone c true := by
  have hmask : (w.mask.has n && CondSet.within w.mask s.permit.conds) = true := by
    rw [hn, CondSet.within_iff.mpr hall]; rfl
  unfold State.contextCondition
  rw [if_pos (by simp [hactive, hphase]), State.stepRecord_wait_iff.mpr ⟨i, hi⟩]
  exact if_pos hmask

/-- A condition's change at a context that it does not take further. -/
theorem State.contextCondition_stays {n : Cond} (h : ∀ i w, (s.context c).state = .active → (s.context c).phase = .conditions →
    s.WaitsIn c i w → w.mask.has n = true → ¬∀ x, w.mask.has x = true → s.cond x = true) : s.contextCondition c n = s := by
  unfold State.contextCondition
  dsimp only
  split
  case isFalse => rfl
  case isTrue hwait =>
  simp only [Bool.and_eq_true, decide_eq_true_eq] at hwait
  split
  next w hw =>
    obtain ⟨i, hi⟩ := State.stepRecord_wait_iff.mp hw
    refine if_neg fun hpass => ?_
    simp only [Bool.and_eq_true] at hpass
    exact h i w hwait.1 hwait.2 hi hpass.1 (CondSet.within_iff.mp hpass.2)
  · rfl
  · rfl

/-- The three timers of a run, at their limits. -/
theorem sequenceTimerEvents (s : State) (c : Ctx) (v : Nat) (hr : s.pins.resetbLow = false) :
    let r := s.context c
    (r.state = .active → r.stepTimer = some v → s.stepLimit c ≤ v → r.phase = .inMotion →
        exec (.stepTimerExpiry c) s
          = .next ((s.setContext c { r with stepTimer := none }).endMotionOf c (s.stepActuator c) .cancelled).finishEvent)
      ∧ (r.state = .active → r.stepTimer = some v → s.stepLimit c ≤ v → r.phase ≠ .inMotion →
          exec (.stepTimerExpiry c) s = .next (s.stepDone c false).finishEvent)
      ∧ (r.state = .active → r.holdTimer = some v → 10000 * s.tables.timing.refresh ≤ v →
          exec (.sequenceLapse c) s
            = .next ((s.setContext c { r with
                state := .paused, phase := .none, stepTimer := none, holdTimer := none
                pauseTimer := some 0 }).endMotionOf c (s.motionInHand c) .lapsed).finishEvent)
      ∧ (r.state = .paused → r.pauseTimer = some v → 10000000 ≤ v →
          exec (.pauseTimerExpiry c) s
            = .next (s.setContext c { r with
                state := .idle, result := .lapsed, owner := none, held := false, phase := .none, stepTimer := none
                holdTimer := none, pauseTimer := none }).finishEvent) := by
  have hstep (hactive : (s.context c).state = .active) (hv : (s.context c).stepTimer = some v) (hlimit : s.stepLimit c ≤ v) :
      exec (.stepTimerExpiry c) s = .next (s.stepTimeout c).finishEvent :=
    exec_event_due (c := .stepTimerExpiry c) rfl (by simp [State.stepDue, hactive, timerAt_some hv hlimit]) hr
  refine ⟨fun hactive hv hlimit hphase => ?_, fun hactive hv hlimit hphase => ?_, fun hactive hv hlimit => ?_,
    fun hpaused hv hlimit => ?_⟩
  · rw [hstep hactive hv hlimit, State.stepTimeout, if_pos hphase, State.motionInHand, if_pos hphase]
  · rw [hstep hactive hv hlimit, State.stepTimeout, if_neg hphase]
  · refine exec_event_due (c := .sequenceLapse c) rfl ?_ hr
    simp [State.runHoldDue, hactive, timerAt_some hv (State.refreshWindow_eq ▸ hlimit)]
  · refine exec_event_due (c := .pauseTimerExpiry c) rfl ?_ hr
    simp [State.pauseDue, hpaused, timerAt_some hv (show ms 10000 ≤ v from hlimit)]

/-- Settles O46: each timer that is due has its effect, and a report, a freed slot and a condition reach the contexts that wait
for them. -/
theorem sequenceTimers : Obligations.SequenceTimers := by
  unfold Obligations.SequenceTimers
  refine ⟨sequenceTimerEvents, fun s c i hi => ⟨fun m => State.step_of_motion hi, fun w => State.step_of_wait hi⟩, fun s c => rfl,
    fun s c o => ⟨fun a => ⟨fun h => if_pos h, fun h => if_neg h⟩, rfl⟩, fun s c a o => ⟨fun h => ?_, fun h ho => ?_, fun h ho => ?_,
      fun h ho ho' => ?_⟩, fun s c a => ⟨State.waitsForSlot_iff, fun h => if_pos h, fun h => if_neg (by simp [h])⟩,
    fun s a => rfl, fun s c n => ⟨?_, fun hpasses => ?_⟩⟩
  · rw [State.judgeReport_eq, if_neg h]
  · rw [State.judgeReport_eq, if_pos h, if_pos ho]
  · subst ho
    rw [State.judgeReport_eq, if_pos h, if_neg (by nofun)]
    rfl
  · rw [State.judgeReport_eq, if_pos h, if_neg ho]
    simp [ho']
  · rintro ⟨hactive, hphase, i, w, hi, hw, hn, hall⟩
    exact State.contextCondition_passes hactive hphase ⟨hi, hw⟩ hn hall
  · refine State.contextCondition_stays fun i w hactive hphase hi hn hall => ?_
    exact hpasses ⟨hactive, hphase, i, w, hi.1, hi.2, hn, hall⟩

end Sys2Proof.Machine

/-! O47: the requests that switch lamps and auxiliary outputs. -/

namespace Sys2Proof.Machine

variable {s u : State} {l : Link} {tag : Byte} {n : Lamp} {ps : List Byte} {o : LampOrder}

theorem clampOn_of_ne_zero {on : Nat} (h : on ≠ 0) : clampOn on = max 6 on := if_neg h

/-- A pattern that is not of off starts in the phase given, and one that is steady on starts ON. -/
theorem LampRec.startPattern_of_on (r : LampRec) (p : Pattern) (startOn : Bool) (h : p.on ≠ 0) : r.startPattern p startOn =
    { r with phaseOn := decide (p.off = 0) || startOn, phaseTimer := if p.off = 0 then none else some 0 } := by
  unfold LampRec.startPattern
  rw [if_neg h]
  by_cases hoff : p.off = 0
  · rw [if_pos hoff, if_pos hoff, decide_eq_true hoff]; rfl
  · rw [if_neg hoff, if_neg hoff, decide_eq_false hoff]; rfl

/-- A class in force that starts a pattern writes the prove timer by what the lamp was and is asked for. -/
theorem LampRec.proveAfter_eq (r : LampRec) (b : Bool) :
    r.proveAfter b = { r with prove := if r.lit = false then none else if b = true then r.prove else some 0 } := by
  rw [LampRec.proveAfter_rest, LampRec.proveAfter_prove]

/-- The pattern of a manual demand in force starts again in the phase given. -/
theorem LampRec.restart_manual {r : LampRec} {m : Manual} (cfg : LampCfg) (on : Bool) (hcls : r.cls = .manual)
    (hm : r.manual = some m) (hon : m.pattern.on ≠ 0) : r.restart cfg on = { r with
      phaseOn := decide (m.pattern.off = 0) || on
      phaseTimer := if m.pattern.off = 0 then none else some 0
      prove := if (decide (m.pattern.off = 0) || on) = false then none else if r.phaseOn = true then r.prove else some 0 } := by
  have hpattern : r.patternOf cfg r.cls = m.pattern := by rw [hcls]; simp only [LampRec.patternOf, hm]
  unfold LampRec.restart
  rw [if_neg (by simp [hcls]), hpattern, LampRec.startPattern_of_on _ _ _ hon, LampRec.proveAfter_eq]
  simp [LampRec.lit, hcls]

/-- A manual demand is recorded, and while MANUAL is in force its pattern starts again. -/
theorem LampRec.setManual_eq (r : LampRec) (cfg : LampCfg) (m : Manual) (hon : m.pattern.on ≠ 0) :
    r.setManual cfg m = if r.cls = .manual then { r with
        manual := some m, bursts := m.bursts
        phaseOn := decide (m.pattern.off = 0) || m.startOn
        phaseTimer := if m.pattern.off = 0 then none else some 0
        prove := if (decide (m.pattern.off = 0) || m.startOn) = false then none
          else if r.phaseOn = true then r.prove else some 0 }
      else { r with manual := some m, bursts := m.bursts } := by
  by_cases hcls : r.cls = .manual
  · rw [if_pos hcls]
    exact (if_pos hcls).trans (LampRec.restart_manual (r := { r with manual := some m, bursts := m.bursts }) cfg m.startOn hcls rfl hon)
  · rw [if_neg hcls]
    exact if_neg hcls

/-! ### LAMP SET -/

theorem lampSetRule_refusedState (h : u.servesLamps = false) : lampSetRule ps u = u.answer .refusedState := if_pos (by simp [h])

theorem lampSetRule_unparsed (h : u.servesLamps = true) (hps : lampOrderOfBytes ps = none) :
    lampSetRule ps u = u.answer .badParam := by
  unfold lampSetRule
  rw [if_neg (by simp [h])]
  simp only [hps]

theorem lampSetRule_of_order (h : u.servesLamps = true) (hps : lampOrderOfBytes ps = some o) :
    lampSetRule ps u = if decide (0 < o.bursts) && (u.orderPattern o).steadyOn then u.answer .badParam
      else if !u.mapped (lampFunc o.lamp) then u.answer .notConfigured
      else u.setLampOrder o := by
  unfold lampSetRule
  rw [if_neg (by simp [h])]
  simp only [hps]

/-- The order carries a burst count for a steady-on pattern. -/
theorem Pattern.burstOfSteady_iff {p : Pattern} {bursts : Nat} :
    (decide (0 < bursts) && p.steadyOn) = true ↔ p.on ≠ 0 ∧ p.off = 0 ∧ 0 < bursts := by
  simp only [Pattern.steadyOn, Bool.and_eq_true, decide_eq_true_eq]
  tauto

/-- An order that passes its checks sets the lamp, or clears it. -/
theorem lampSetRule_sets (h : u.servesLamps = true) (hps : lampOrderOfBytes ps = some o)
    (hsteady : ¬((u.orderPattern o).on ≠ 0 ∧ (u.orderPattern o).off = 0 ∧ 0 < o.bursts))
    (hmapped : u.mapped (lampFunc o.lamp) = true) : lampSetRule ps u = u.setLampOrder o := by
  rw [lampSetRule_of_order h hps, if_neg (Pattern.burstOfSteady_iff.not.mpr hsteady), if_neg (by simp [hmapped])]

/-- The four answers of a LAMP SET. -/
theorem exec_lampSet (hps : lampOrderOfBytes ps = some o) (hadm : s.admits l cabRearKerb) (hserves : s.servesLamps = true) :
    let u := s.withFrame l
    let p := o.pattern.getD (s.lampCfg o.lamp).manual
    let steady := p.on ≠ 0 ∧ p.off = 0 ∧ 0 < o.bursts
    let r := s.lamp o.lamp
    let given := { r with manual := some ⟨⟨max 6 p.on, p.off⟩, o.bursts, o.startOn⟩, bursts := o.bursts }
    let starts := decide (p.off = 0) || o.startOn
    let demand := if r.cls = .manual then { given with
        phaseOn := starts
        phaseTimer := if p.off = 0 then none else some 0
        prove := if starts = false then none else if r.phaseOn = true then r.prove else some 0 }
      else given
    (steady → exec (.lampSet l tag ps) s = .next (u.replied l 0x30 tag .badParam []))
      ∧ (¬steady → s.mapped (lampFunc o.lamp) = false →
        exec (.lampSet l tag ps) s = .next (u.replied l 0x30 tag .notConfigured []))
      ∧ (¬steady → s.mapped (lampFunc o.lamp) = true → p.on = 0 → exec (.lampSet l tag ps) s
        = .next ((u.setLamp o.lamp { r with manual := none, bursts := 0 }).finish.replied l 0x30 tag .accepted []))
      ∧ (¬steady → s.mapped (lampFunc o.lamp) = true → p.on ≠ 0 → exec (.lampSet l tag ps) s
        = .next ((u.setLamp o.lamp demand).finish.replied l 0x30 tag (if p.on < 6 then .clamped else .accepted) [])) := by
  intro u p steady r given starts demand
  have hserved : s.device.state ≠ .startup ∨ false = true := .inl fun h => by simp [State.servesLamps, h] at hserves
  have hu : u.servesLamps = true := hserves
  have hp : u.orderPattern o = p := rfl
  refine ⟨fun hsteady => ?_, fun hsteady hmapped => ?_, fun hsteady hmapped hon => ?_, fun hsteady hmapped hon => ?_⟩
  · refine exec_answered rfl rfl hadm hserved ((lampSetRule_of_order hu hps).trans (if_pos ?_)) rfl
    exact Pattern.burstOfSteady_iff.mpr (hp ▸ hsteady)
  · have hmapped' : u.mapped (lampFunc o.lamp) = false := hmapped
    refine exec_answered rfl rfl hadm hserved
      ((lampSetRule_of_order hu hps).trans ((if_neg ?_).trans (if_pos (by simp [hmapped'])))) rfl
    exact Pattern.burstOfSteady_iff.not.mpr (hp ▸ hsteady)
  · exact exec_answered rfl rfl hadm hserved ((lampSetRule_sets hu hps hsteady hmapped).trans (if_pos hon)) rfl
  · have hset : u.setLampOrder o = (u.setLamp o.lamp demand).finish.answer (if p.on < 6 then .clamped else .accepted) := by
      have hdemand : (u.lamp o.lamp).setManual (u.lampCfg o.lamp) ⟨⟨clampOn p.on, p.off⟩, o.bursts, o.startOn⟩ = demand := by
        rw [clampOn_of_ne_zero hon, LampRec.setManual_eq _ _ _ (by simp only; omega)]
        rfl
      rw [← hdemand]
      exact if_neg hon
    exact exec_answered rfl rfl hadm hserved ((lampSetRule_sets hu hps hsteady hmapped).trans hset) rfl

/-! ### LAMP CLEAR and OUTPUT -/

theorem lampClearRule_refusedState (h : u.servesLamps = false) : lampClearRule ps u = u.answer .refusedState :=
  if_pos (by simp [h])

theorem lampClearRule_unparsed (h : u.servesLamps = true) (hps : clearedLamp ps = none) :
    lampClearRule ps u = u.answer .badParam := by
  unfold lampClearRule
  rw [if_neg (by simp [h])]
  simp only [hps]

theorem lampClearRule_clears (h : u.servesLamps = true) (hps : clearedLamp ps = some n) :
    lampClearRule ps u = (u.clearLamp n).finish.answer .accepted := by
  unfold lampClearRule
  rw [if_neg (by simp [h])]
  simp only [hps]

theorem outputRule_refusedState (h : u.awake = false) : outputRule ps u = u.answer .refusedState := if_pos (by simp [h])

theorem outputRule_unparsed (h : u.awake = true) (hps : outputOfBytes ps = none) : outputRule ps u = u.answer .badParam := by
  unfold outputRule
  rw [if_neg (by simp [h])]
  simp only [hps]

theorem outputRule_of_bytes {f : Func} {on : Bool} (h : u.awake = true) (hps : outputOfBytes ps = some (f, on)) :
    outputRule ps u = if on && !u.mapped f then u.answer .notConfigured
      else (u.setRequest f (.ofBool on)).finish.answer .accepted := by
  unfold outputRule
  rw [if_neg (by simp [h])]
  simp only [hps]

theorem State.servesLamps_iff : s.servesLamps = true ↔ s.device.state ∈ [DeviceState.unconfigured, .ready, .stopped] := by
  unfold State.servesLamps
  cases s.device.state <;> decide

theorem State.awake_iff_mem : s.awake = true ↔ s.device.state ∈ [DeviceState.unconfigured, .config, .ready, .stopped] := by
  unfold State.awake
  cases s.device.state <;> decide

theorem Request.ofBool_eq (on : Bool) : Request.ofBool on = if on = true then .on else .off := by cases on <;> rfl

/-- Settles O47: each request is looked at by device state, then by its bytes, then by the map. -/
theorem switchingRequests : Obligations.SwitchingRequests := by
  unfold Obligations.SwitchingRequests
  intro s l tag ps u refuses
  refine ⟨fun o hps hadm hserves => exec_lampSet hps hadm hserves, fun n hps hadm hserves => ?_,
    fun f on hps hadm hawake => ⟨fun hmapped => ?_, fun hon hmapped => ?_⟩,
    fun hadm => ⟨fun hserves => ⟨?_, ?_⟩, fun hserves hps => ?_, fun hserves hps => ?_⟩,
    fun hadm => ⟨fun hawake => ?_, fun hawake hps => ?_⟩, State.servesLamps_iff, State.awake_iff_mem⟩
  · exact exec_answered rfl rfl hadm (.inl fun h => by simp [State.servesLamps, h] at hserves)
      (lampClearRule_clears (u := s.withFrame l) hserves hps) rfl
  · have hrule : outputRule ps u = (u.setRequest f (if on = true then .on else .off)).finish.answer .accepted := by
      rw [outputRule_of_bytes (u := u) hawake hps, ← Request.ofBool_eq, if_neg]
      have hu : on = true → u.mapped f = true := hmapped
      cases on <;> simp_all
    exact exec_answered rfl rfl hadm (.inl (State.not_startup_of_awake hawake)) hrule rfl
  · have hmapped' : u.mapped f = false := hmapped
    exact exec_answered rfl rfl hadm (.inl (State.not_startup_of_awake hawake))
      ((outputRule_of_bytes (u := u) hawake hps).trans (if_pos (by simp [hon, hmapped']))) rfl
  · exact exec_refusedState rfl rfl hadm rfl (lampSetRule_refusedState (u := u) hserves) rfl
  · exact exec_refusedState rfl rfl hadm rfl (lampClearRule_refusedState (u := u) hserves) rfl
  · exact exec_answered rfl rfl hadm (.inl fun h => by simp [State.servesLamps, h] at hserves)
      (lampSetRule_unparsed (u := u) hserves hps) rfl
  · exact exec_answered rfl rfl hadm (.inl fun h => by simp [State.servesLamps, h] at hserves)
      (lampClearRule_unparsed (u := u) hserves hps) rfl
  · exact exec_refusedState rfl rfl hadm rfl (outputRule_refusedState (u := u) hawake) rfl
  · exact exec_answered rfl rfl hadm (.inl (State.not_startup_of_awake hawake)) (outputRule_unparsed (u := u) hawake hps) rfl

end Sys2Proof.Machine

/-! O48, O49 and O50: the timers of the lamps and of the channels, and the test of priming. -/

namespace Sys2Proof.Machine

variable {s u : State} {n : Lamp} {a : Actuator} {k : Stroke} {c : Chan} {v current : Nat}

/-! ### The phases of a lamp -/

theorem ms_tens (x : Nat) : ms (10 * x) = 10000 * x := by
  simp only [ms]; omega

/-- A phase turns over from 0; the prove timer starts at a turn-on and stops at a turn-off. -/
theorem LampRec.toggle_eq (r : LampRec) : r.toggle = { r with
    phaseOn := !r.phaseOn, phaseTimer := some 0, prove := if r.phaseOn = true ∨ r.cls = .none then none else some 0 } := by
  unfold LampRec.toggle
  rw [LampRec.proveAfter_eq]
  cases hon : r.phaseOn
  case true => simp [LampRec.lit]
  case false => cases hcls : r.cls <;> simp [LampRec.lit, hon, hcls]

/-- A counted manual demand loses a burst, and ends with its last. -/
theorem LampRec.spendBurst_counts {r : LampRec} {m : Manual} (hm : r.manual = some m) (hb : 0 < m.bursts) :
    r.spendBurst = { r with bursts := r.bursts - 1, manual := if r.bursts ≤ 1 then none else r.manual } := by
  unfold LampRec.spendBurst
  simp only [hm]
  rw [if_neg (by omega)]
  by_cases hlast : r.bursts ≤ 1
  · rw [if_pos hlast, if_pos hlast, show r.bursts - 1 = 0 by omega]
  · rw [if_neg hlast, if_neg hlast, ← hm]

theorem LampRec.spendBurst_stays {r : LampRec} (h : ∀ m, r.manual = some m → ¬0 < m.bursts) : r.spendBurst = r := by
  unfold LampRec.spendBurst
  split
  next m hm => exact if_pos (by have := h m hm; omega)
  next => rfl

theorem LampRec.phaseEnd_counts {r : LampRec} {m : Manual} (hon : r.phaseOn = true) (hcls : r.cls = .manual)
    (hm : r.manual = some m) (hb : 0 < m.bursts) :
    r.phaseEnd = { r.toggle with bursts := r.bursts - 1, manual := if r.bursts ≤ 1 then none else r.manual } := by
  have htoggle := r.toggle_eq
  have hmanual : r.toggle.manual = some m := by rw [htoggle]; exact hm
  unfold LampRec.phaseEnd
  rw [if_pos (by simp [hon, hcls]), LampRec.spendBurst_counts hmanual hb, htoggle]

theorem LampRec.phaseEnd_stays {r : LampRec}
    (h : ¬(r.phaseOn = true ∧ r.cls = .manual ∧ ∃ m, r.manual = some m ∧ 0 < m.bursts)) : r.phaseEnd = r.toggle := by
  unfold LampRec.phaseEnd
  split
  next hboth =>
    simp only [Bool.and_eq_true, decide_eq_true_eq] at hboth
    refine LampRec.spendBurst_stays fun m hm hb => h ⟨hboth.1, hboth.2, m, ?_, hb⟩
    rw [LampRec.toggle_eq] at hm
    exact hm
  next => rfl

/-- A phase lasts as the pattern of the class in force gives it. -/
theorem State.phaseDuration_eq : s.phaseDuration n = 10000 *
    if (s.lamp n).phaseOn = true then ((s.lamp n).patternOf (s.lampCfg n) (s.lamp n).cls).on
    else ((s.lamp n).patternOf (s.lampCfg n) (s.lamp n).cls).off := ms_tens _

/-- The timers of a lamp, at their limits. -/
theorem lampTimerEvents (s : State) (n : Lamp) (v : Nat) (hr : s.pins.resetbLow = false) :
    ((s.lamp n).phaseTimer = some v → s.phaseDuration n ≤ v →
        exec (.phaseTimerExpiry n) s = .next (s.setLamp n (s.lamp n).phaseEnd).finishEvent)
      ∧ (let r := s.lamp n
        let lasts := fun p : Pattern => s.phaseDuration n = 10000 * if r.phaseOn = true then p.on else p.off
        let turned := { r with
          phaseOn := !r.phaseOn, phaseTimer := some 0, prove := if r.phaseOn = true ∨ r.cls = .none then none else some 0 }
        let counts := r.phaseOn = true ∧ r.cls = .manual ∧ ∃ m, r.manual = some m ∧ 0 < m.bursts
        (r.cls = .fault → lasts (s.lampCfg n).fault) ∧ (r.cls = .motion → lasts (s.lampCfg n).motion)
          ∧ (∀ m, r.cls = .manual → r.manual = some m → lasts m.pattern)
          ∧ (¬counts → r.phaseEnd = turned)
          ∧ (counts → r.phaseEnd = { turned with
              bursts := r.bursts - 1, manual := if r.bursts ≤ 1 then none else r.manual }))
      ∧ ((s.lamp n).motion = .trail → (s.lamp n).trailTimer = some v →
          1000 * max (s.lampCfg n).trail s.tables.timing.trailBase ≤ v →
          exec (.trailTimerExpiry n) s
            = .next (s.setLamp n { s.lamp n with motion := .absent, trailTimer := none }).finishEvent)
      ∧ ((s.lamp n).lead = some v → 1000 * s.tables.timing.lead ≤ v →
          exec (.leadReached n) s = .next (s.push .primeTest).finishEvent) := by
  have hms (x : Nat) : ms x = 1000 * x := by simp only [ms]; omega
  refine ⟨fun hv hlimit => ?_, ⟨fun hcls => ?_, fun hcls => ?_, fun m hcls hm => ?_, fun hcounts => ?_, ?_⟩,
    fun hmotion hv hlimit => ?_, fun hv hlimit => ?_⟩
  · exact exec_event_due (c := .phaseTimerExpiry n) rfl (timerAt_some hv hlimit) hr
  · dsimp only; rw [State.phaseDuration_eq, hcls]; rfl
  · dsimp only; rw [State.phaseDuration_eq, hcls]; rfl
  · have hpattern : (s.lamp n).patternOf (s.lampCfg n) .manual = m.pattern := by simp only [LampRec.patternOf, hm]
    dsimp only
    rw [State.phaseDuration_eq, hcls, hpattern]
  · exact (LampRec.phaseEnd_stays hcounts).trans (LampRec.toggle_eq _)
  · rintro ⟨hon, hcls, m, hm, hb⟩
    exact (LampRec.phaseEnd_counts hon hcls hm hb).trans (by rw [LampRec.toggle_eq])
  · refine exec_event_due (c := .trailTimerExpiry n) rfl ?_ hr
    have hlimit' : s.trailInForce n ≤ v := (hms _).trans_le hlimit
    simp [State.trailDue, hmotion, timerAt_some hv hlimit']
  · exact exec_event_due (c := .leadReached n) rfl (timerAt_some hv ((hms _).trans_le hlimit)) hr

/-! ### The test of priming -/

/-- The test passes for a slot whose lamps have led, and with PUMPRUN for a powered stroke. -/
theorem State.primeTestOf_eq : s.primeTestOf a =
    if (s.slot a).state = .priming ∧ s.leadHoldsFor a = true
        ∧ ((s.slot a).stroke = some .powered → s.asserted .pumprun = true) then s.enterRunning a
    else s := by
  simp only [State.primeTestOf, Bool.and_eq_true, Bool.or_eq_true, decide_eq_true_eq, and_assoc, ne_eq, imp_iff_not_or]

/-- The lead of a slot, by the map, the masks and the lead clocks. -/
theorem State.leadHoldsFor_iff_clocks : s.leadHoldsFor a = true ↔
    ∀ n : Lamp, (∃ c, ∀ d, s.tables.outputMap.get d = some (lampFunc n) ↔ d = c) →
      (s.lampCfg n).mask.get a.ix = true →
      (∃ v, (s.lamp n).lead = some v ∧ 1000 * s.tables.timing.lead ≤ v)
        ∧ ((s.lampCfg n).required = true → (s.lamp n).proven = .proven) := by
  have hlead : s.leadTime = 1000 * s.tables.timing.lead := by simp only [State.leadTime, ms]; omega
  simp only [State.leadHoldsFor_iff, State.mapped_iff, State.leadHolds_iff, hlead]

/-- The slot that the test of priming has passed, in RUNNING with its prime timer stopped. -/
def State.started (s : State) (a : Actuator) : State :=
  (s.setSlot a { s.slot a with state := .running }).setPrime a .stopped

theorem State.slot_started : (s.started a).slot a = { s.slot a with state := .running } := by
  simp [State.started]

theorem State.endTest_started {target : Nat} : (s.started a).endTest a k target = s.endTest a k target := by
  cases a <;> cases k <;> rfl

/-- The LIFT return stroke opens its valve at u_min. -/
theorem State.enterRunning_lowers (hstroke : (s.slot .lift).stroke = some .ret) : s.enterRunning .lift =
    ({ s.started .lift with profile := ⟨s.coilDuty s.tables.profile.umin, some 0, none⟩ }).setSlot .lift
      { (s.started .lift).slot .lift with u := s.tables.profile.umin } := by
  unfold State.enterRunning
  rw [if_pos (by simp [hstroke])]
  rfl

/-- Every other stroke makes its end test, and the LIFT slot its overload test. -/
theorem State.enterRunning_tests (hstroke : (s.slot a).stroke = some k) (hnot : ¬(a = .lift ∧ k = .ret)) :
    s.enterRunning a = if a = .lift then ((s.started a).runEndTest a).testOverload else (s.started a).runEndTest a := by
  unfold State.enterRunning
  rw [if_neg (by simpa [hstroke] using hnot)]
  rfl

theorem State.testOverload_of_not_running (h : (u.slot .lift).state ≠ .running) : u.testOverload = u := by
  unfold State.testOverload
  rw [if_neg (by simp [h])]

theorem State.testOverload_of_running (h : (u.slot .lift).state = .running) (hp : (u.slot .lift).stroke = some .powered) :
    u.testOverload = if u.tables.profile.pover ≤ (u.capture .pressure).reported then
      { u with profile := { u.profile with overload := some (u.profile.overload.getD 0) } }
    else { u with profile := { u.profile with overload := none } } := by
  unfold State.testOverload
  rw [if_pos (by simp [h, hp])]

/-- A stroke that stands at its target ends REACHED, and the overload timer of LIFT stays with the end. -/
theorem State.enterRunning_reached (hstroke : (s.slot a).stroke = some k) (hnot : ¬(a = .lift ∧ k = .ret))
    (hend : s.endTest a k ((s.slot a).target.getD 0) = true) : s.enterRunning a = (s.started a).endMotion a .reached := by
  have hrunning : ((s.started a).slot a).state = .running := by rw [State.slot_started]
  have hstroke' : ((s.started a).slot a).stroke = some k := by rw [State.slot_started]; exact hstroke
  have hend' : (s.started a).endTest a k (((s.started a).slot a).target.getD 0) = true := by
    rw [State.slot_started, State.endTest_started]; exact hend
  rw [State.enterRunning_tests hstroke hnot, State.runEndTest_reached hrunning hstroke' hnot hend']
  by_cases ha : a = .lift
  case neg => rw [if_neg ha]
  subst ha
  rw [if_pos rfl]
  refine State.testOverload_of_not_running ?_
  rw [State.endMotion_settles hrunning rfl (.inl rfl), State.slot_setSlot, if_pos rfl]
  nofun

/-- A stroke that does not stand at its target goes on. -/
theorem State.enterRunning_runs (hstroke : (s.slot a).stroke = some k) (hnot : ¬(a = .lift ∧ k = .ret))
    (hend : s.endTest a k ((s.slot a).target.getD 0) = false) :
    s.enterRunning a = if a = .lift then (s.started a).testOverload else s.started a := by
  rw [State.enterRunning_tests hstroke hnot, State.runEndTest_stays (.inr (.inr ⟨k, ?_, .inr ?_⟩))]
  · rw [State.slot_started]; exact hstroke
  · rw [State.slot_started, State.endTest_started]; exact hend

/-- How a slot enters RUNNING. -/
theorem enterRunningSpec (s : State) (a : Actuator) (k : Stroke) (hstroke : (s.slot a).stroke = some k) :
    let r := { s.slot a with state := .running }
    let u := (s.setSlot a r).setPrime a .stopped
    let umin := s.tables.profile.umin
    let heavy := s.tables.profile.pover ≤ (s.capture .pressure).reported
    (a = .lift → k = .ret → s.enterRunning a
        = ({ u with profile := ⟨s.coilDuty umin, some 0, none⟩ }).setSlot a { r with u := umin })
      ∧ (¬(a = .lift ∧ k = .ret) → s.endTest a k (r.target.getD 0) = true → s.enterRunning a = u.endMotion a .reached)
      ∧ (a ≠ .lift → s.endTest a k (r.target.getD 0) = false → s.enterRunning a = u)
      ∧ (a = .lift → k = .powered → s.endTest a k (r.target.getD 0) = false →
        (heavy → s.enterRunning a
            = { u with profile := { s.profile with overload := some (s.profile.overload.getD 0) } })
          ∧ (¬heavy → s.enterRunning a = { u with profile := { s.profile with overload := none } })) := by
  refine ⟨?_, fun hnot hend => State.enterRunning_reached hstroke hnot hend, fun ha hend => ?_, ?_⟩
  · rintro rfl rfl
    rw [State.enterRunning_lowers hstroke, State.slot_started]
    rfl
  · rw [State.enterRunning_runs hstroke (fun h => ha h.1) hend, if_neg ha]
    rfl
  · rintro rfl rfl hend
    have hrunning : ((s.started .lift).slot .lift).state = .running := by rw [State.slot_started]
    have hpowered : ((s.started .lift).slot .lift).stroke = some .powered := by rw [State.slot_started]; exact hstroke
    rw [State.enterRunning_runs hstroke (by nofun) hend, if_pos rfl, State.testOverload_of_running hrunning hpowered]
    exact ⟨fun hheavy => if_pos hheavy, fun hheavy => if_neg hheavy⟩

theorem State.take_primeTest :
    s.take .primeTest = (((s.primeTestOf .lift).primeTestOf .tilt).primeTestOf .khatch).primeTestOf .ohatch := by
  show s.primeTests = _
  simp only [State.primeTests, Actuator.all, List.foldl_cons, List.foldl_nil]

/-- Settles O48: the lamp's timers, the test of priming, and how a slot enters RUNNING. -/
theorem lampTimers : Obligations.LampTimers := by
  unfold Obligations.LampTimers
  refine ⟨lampTimerEvents, fun s => State.take_primeTest, fun s a => ⟨fun hpasses => ?_, fun hpasses => ?_⟩, enterRunningSpec,
    fun s => ⟨fun hlifts hheavy => ?_, fun hlifts hheavy => ?_, fun hlifts => ?_⟩⟩
  · obtain ⟨hpriming, hled, hpump⟩ := hpasses
    exact State.primeTestOf_eq.trans (if_pos ⟨hpriming, State.leadHoldsFor_iff_clocks.mpr hled, hpump⟩)
  · refine State.primeTestOf_eq.trans (if_neg fun ⟨hpriming, hled, hpump⟩ => hpasses ⟨hpriming, ?_, hpump⟩)
    exact State.leadHoldsFor_iff_clocks.mp hled
  · exact (State.testOverload_of_running hlifts.1 hlifts.2).trans (if_pos hheavy)
  · exact (State.testOverload_of_running hlifts.1 hlifts.2).trans (if_neg hheavy)
  · exact if_neg (by simpa using hlifts)

/-! ### Proving a lamp -/

theorem ChanRec.openLoad_le_iff (r : ChanRec) : openLoad ≤ r.loadCurrent current ↔ r.driven = true ∧ 100 ≤ current := by
  unfold ChanRec.loadCurrent openLoad
  cases r.driven <;> simp

/-- A lamp that a channel carries is proven there. -/
theorem State.proveLamp_carried (hc : s.Carries c (lampFunc n)) : s.proveLamp n current =
    (s.setLamp n { s.lamp n with prove := none }).proved n (decide (openLoad ≤ (s.chan c).loadCurrent current)) := by
  unfold State.proveLamp
  rw [State.carrier_eq_some.mpr hc]

theorem State.proveLamp_uncarried (h : ∀ c, s.tables.outputMap.get c ≠ some (lampFunc n)) :
    s.proveLamp n current = s.setLamp n { s.lamp n with prove := none } := by
  unfold State.proveLamp
  rw [State.carrier_eq_none.mpr fun c hc => h c hc.1]

theorem State.proved_stays {pass : Bool} (h : (u.lamp n).proven = .failed ∨ ((u.lamp n).proven = .proven ∧ pass = true)) :
    u.proved n pass = u := by
  unfold State.proved
  obtain h | ⟨h, rfl⟩ := h <;> simp only [h]

theorem State.proved_proves (h : (u.lamp n).proven = .unknown) :
    u.proved n true = (u.setLamp n { u.lamp n with proven := .proven }).push .primeTest := by
  unfold State.proved
  simp only [h]

theorem State.proved_fails (h : (u.lamp n).proven ≠ .failed) :
    u.proved n false = (u.setLamp n { u.lamp n with proven := .failed }).push (.occurrence .lampOpen (.lamp n)) := by
  unfold State.proved
  cases hp : (u.lamp n).proven
  case failed => exact absurd hp h
  case unknown | proven => simp only [hp]

/-- Settles O49: the proving is made on the channel that carries the lamp, and reads its load. -/
theorem lampsAreProven : Obligations.LampsAreProven := by
  unfold Obligations.LampsAreProven
  intro s n current v hr hlit hv hlimit r t
  have hlamp : t.lamp n = r := by rw [State.lamp_setLamp, if_pos rfl]
  have hexec : exec (.lampProveTest n current) s = .next (s.proveLamp n current).finishEvent :=
    exec_event_due (c := .lampProveTest n current) rfl
      (by simp [State.proveDue, hlit, timerAt_some hv (show ms 50 ≤ v from hlimit)]) hr
  refine ⟨fun c hc => ?_, fun hnone => by rw [hexec, State.proveLamp_uncarried hnone]⟩
  have hproved (pass : Bool) (hp : pass = decide (openLoad ≤ (s.chan c).loadCurrent current)) :
      s.proveLamp n current = t.proved n pass := by rw [hp]; exact State.proveLamp_carried hc
  have hpass := (s.chan c).openLoad_le_iff (current := current)
  refine ⟨fun h => ?_, fun hunknown h => ?_, fun hfailed h => ?_⟩
  · rw [hexec, hproved _ rfl, State.proved_stays]
    rw [hlamp]
    exact h.imp_right fun h => ⟨h.1, decide_eq_true (hpass.mpr h.2)⟩
  · rw [hexec, hproved true (decide_eq_true (hpass.mpr h)).symm, State.proved_proves (hlamp ▸ hunknown), hlamp]
  · rw [hexec, hproved false (decide_eq_false (hpass.not.mpr h)).symm, State.proved_fails (hlamp ▸ hfailed), hlamp]

/-! ### The tests of a channel -/

theorem ChanRec.driven_iff (r : ChanRec) : r.driven = true ↔
    r.drive = .on ∨ (r.drive = .pwm ∧ ∃ p, r.period = some p ∧ (p < 5 * r.duty ∨ 1000 ≤ r.duty)) := by
  unfold ChanRec.driven
  cases hd : r.drive
  case on | off | tripped => simp
  case pwm =>
    cases hp : r.period
    case none => simp
    case some p => simp [Nat.mul_comm]

theorem State.openLoadDue_of_drive (hv : (s.chan c).prove = some v) (hlimit : 50000 ≤ v)
    (h : (s.chan c).drive = .on ∨ ((s.chan c).drive = .pwm ∧ (s.chan c).armed = true ∧ (s.chan c).driven = true)) :
    s.openLoadDue c = true := by
  unfold State.openLoadDue
  rw [Bool.and_eq_true]
  refine ⟨timerAt_some hv (show ms 50 ≤ v from hlimit), ?_⟩
  obtain hon | ⟨hpwm, harmed, hdriven⟩ := h
  · simp only [hon]
  · simp only [hpwm, harmed, hdriven, Bool.and_self]

theorem ChanRec.shortLoad_lt_iff (r : ChanRec) : shortLoad < r.loadCurrent current ↔ r.driven = true ∧ 8000 < current := by
  unfold ChanRec.loadCurrent shortLoad
  cases r.driven <;> simp

/-- Settles O50: each test reads its channel's record. -/
theorem channelTests : Obligations.ChannelTests := by
  unfold Obligations.ChannelTests
  intro s c current v hr r
  refine ⟨fun hv hlimit hdrive => ?_, fun hdriven hcurrent => ?_, fun h => ?_, fun hdrive hv hlimit => ?_, r.driven_iff⟩
  · have htest : s.testOpenLoad c current = if s.carriesLamp c = false ∧ current < 100 then
        (s.setChan c { r with prove := none, armed := false }).push (.occurrence .driverOpen (.chan c))
      else s.setChan c { r with prove := none, armed := false } := by
      simp only [State.testOpenLoad, Bool.and_eq_true, Bool.not_eq_true', decide_eq_true_eq]
      rfl
    exact (exec_event_due (c := .openLoadTest c current) rfl (State.openLoadDue_of_drive hv hlimit hdrive) hr).trans
      (congrArg (fun u : State => Host.Outcome.next u.finishEvent) htest)
  · exact exec_event_due (c := .shortTrip c current) rfl (decide_eq_true (r.shortLoad_lt_iff.mpr ⟨hdriven, hcurrent⟩)) hr
  · have hnot : decide (shortLoad < r.loadCurrent current) = false := by
      refine decide_eq_false fun hload => ?_
      obtain ⟨hdriven, hcurrent⟩ := r.shortLoad_lt_iff.mp hload
      obtain h | h := h
      · rw [hdriven] at h; cases h
      · omega
    exact exec_event_waits (c := .shortTrip c current) (congrArg (fun due => some (due, s.tripChan c)) hnot)
  · refine exec_event_due (c := .pwmPeriodStart c) rfl ?_ hr
    rw [State.periodDue, timerAt_some hv (show ms 5 ≤ v from hlimit)]
    simpa using hdrive

end Sys2Proof.Machine

/-! O51 and O53: acknowledgements, removals and occurrences at the fault table. -/

namespace Sys2Proof.Machine

variable {s u : State} {l : Link} {tag : Byte} {ps : List Byte} {k k' : FaultKind} {v v' : Subject} {e : FaultEntry} {n : Lamp} {c : Chan}

/-! ### What a removal releases -/

/-- The removal of this entry leaves `k'` and `v'` without an entry: it is theirs, or the full flag stands and they had none. -/
def State.Bares (s : State) (k : FaultKind) (v : Subject) (k' : FaultKind) (v' : Subject) : Prop :=
  (k = k' ∧ v = v') ∨ (s.faults.full = true ∧ ∀ e ∈ s.faults.entries, e.isFor k' v' = false)

theorem FaultEntry.isFor_other (h : ¬(k = k' ∧ v = v')) (hfor : e.isFor k' v' = true) : e.isFor k v = false := by
  rw [Bool.eq_false_iff]
  intro hfor'
  obtain ⟨rfl, rfl⟩ := (e.isFor_iff _ _).mp hfor
  obtain ⟨hk, hv⟩ := (e.isFor_iff _ _).mp hfor'
  exact h ⟨hk.symm, hv.symm⟩

theorem LampRec.releaseFailed_of_failed {r : LampRec} (h : r.proven = .failed) : r.releaseFailed = { r with proven := .unknown } :=
  if_pos h

theorem LampRec.releaseFailed_of_not_failed {r : LampRec} (h : r.proven ≠ .failed) : r.releaseFailed = r := if_neg h

theorem LampRec.releaseFailed_twice (r : LampRec) : r.releaseFailed.releaseFailed = r.releaseFailed := by
  by_cases h : r.proven = .failed
  · rw [LampRec.releaseFailed_of_failed h]; rfl
  · rw [LampRec.releaseFailed_of_not_failed h, LampRec.releaseFailed_of_not_failed h]

theorem ChanRec.release_of_tripped {r : ChanRec} (h : r.drive = .tripped) : r.release = ⟨.off, 0, 0, none, none, false⟩ := if_pos h

theorem ChanRec.release_of_not_tripped {r : ChanRec} (h : r.drive ≠ .tripped) : r.release = r := if_neg h

theorem ChanRec.release_twice (r : ChanRec) : r.release.release = r.release := by
  by_cases h : r.drive = .tripped
  · rw [ChanRec.release_of_tripped h]; rfl
  · rw [ChanRec.release_of_not_tripped h, ChanRec.release_of_not_tripped h]

theorem State.lamp_releaseLampOf : (u.releaseLampOf k v).lamp n =
    if k = .lampOpen ∧ v = .lamp n then (u.lamp n).releaseFailed else u.lamp n := by
  unfold State.releaseLampOf
  split
  next m => rw [State.lamp_setLamp]; by_cases hm : m = n <;> simp [hm]
  next h => rw [if_neg fun hkv => h n hkv.1 hkv.2]

theorem State.chan_releaseLampOf : (u.releaseLampOf k v).chan c = u.chan c := by
  unfold State.releaseLampOf
  split <;> rfl

theorem State.lamp_releaseChanOf : (u.releaseChanOf k v).lamp n = u.lamp n := by
  unfold State.releaseChanOf
  split <;> rfl

theorem State.chan_releaseChanOf : (u.releaseChanOf k v).chan c =
    if k = .driverShort ∧ v = .chan c then (u.chan c).release else u.chan c := by
  unfold State.releaseChanOf
  split
  next d => rw [State.chan_setChan]; by_cases hd : d = c <;> simp [hd]
  next h => rw [if_neg fun hkv => h c hkv.1 hkv.2]

theorem State.faults_releaseLampOf : (u.releaseLampOf k v).faults = u.faults := by
  unfold State.releaseLampOf
  split <;> rfl

theorem State.faults_releaseChanOf : (u.releaseChanOf k v).faults = u.faults := by
  unfold State.releaseChanOf
  split <;> rfl

theorem State.lamp_clearFull : u.clearFull.lamp n =
    if u.faults.full = true ∧ u.hasEntry .lampOpen (.lamp n) = false then (u.lamp n).releaseFailed else u.lamp n := by
  unfold State.clearFull
  by_cases hfull : u.faults.full = true
  case neg => rw [if_neg hfull, if_neg fun h => hfull h.1]
  rw [if_pos hfull]
  show (Table.ofFn _).get n = _
  rw [Table.get_ofFn]
  cases h : u.hasEntry .lampOpen (.lamp n) <;> simp [hfull]

theorem State.chan_clearFull : u.clearFull.chan c =
    if u.faults.full = true ∧ u.hasEntry .driverShort (.chan c) = false then (u.chan c).release else u.chan c := by
  unfold State.clearFull
  by_cases hfull : u.faults.full = true
  case neg => rw [if_neg hfull, if_neg fun h => hfull h.1]
  rw [if_pos hfull]
  show (Table.ofFn _).get c = _
  rw [Table.get_ofFn]
  cases h : u.hasEntry .driverShort (.chan c) <;> simp [hfull]

theorem State.faults_clearFull : u.clearFull.faults = ⟨u.faults.entries, false⟩ := by
  unfold State.clearFull
  cases hfull : u.faults.full
  case true => rfl
  case false =>
    show u.faults = _
    rw [← hfull]

/-- The state of a removal before the full flag clears. -/
def State.withoutEntry (s : State) (k : FaultKind) (v : Subject) : State :=
  ((s.setEntries (s.faults.entries.filter fun e => !e.isFor k v)).releaseLampOf k v).releaseChanOf k v

theorem State.faults_withoutEntry : (s.withoutEntry k v).faults = ⟨s.faults.entries.filter fun e => !e.isFor k v, s.faults.full⟩ := by
  rw [State.withoutEntry, State.faults_releaseChanOf, State.faults_releaseLampOf]
  rfl

/-- A removal takes its entry out and clears the full flag. -/
theorem State.faults_removeEntry (k : FaultKind) (v : Subject) :
    (s.removeEntry k v).faults = ⟨s.faults.entries.filter fun e => !e.isFor k v, false⟩ := by
  show (s.withoutEntry k v).clearFull.faults = _
  rw [State.faults_clearFull, State.faults_withoutEntry]

/-- What the full flag releases after a removal, where the removal itself did not. -/
theorem State.bares_iff_of_ne (h : ¬(k = k' ∧ v = v')) : s.Bares k v k' v' ↔
    (s.withoutEntry k v).faults.full = true ∧ (s.withoutEntry k v).hasEntry k' v' = false := by
  unfold State.Bares
  rw [State.hasEntry_eq_false, State.faults_withoutEntry]
  simp only [List.mem_filter, Bool.not_eq_true']
  refine ⟨fun hbare => ?_, fun ⟨hfull, hnone⟩ => .inr ⟨hfull, fun e he => ?_⟩⟩
  · obtain ⟨hfull, hnone⟩ := hbare.resolve_left h
    exact ⟨hfull, fun e he => hnone e he.1⟩
  · by_contra hfor
    have hfor := (Bool.not_eq_false _).mp hfor
    exact Bool.false_ne_true ((hnone e ⟨he, FaultEntry.isFor_other h hfor⟩).symm.trans hfor)

/-- A removal releases the lamps it leaves without an entry. -/
theorem State.lamp_removeEntry (h : s.Bares k v .lampOpen (.lamp n)) : (s.removeEntry k v).lamp n = (s.lamp n).releaseFailed := by
  have hlamp : (s.withoutEntry k v).lamp n
      = if k = .lampOpen ∧ v = .lamp n then (s.lamp n).releaseFailed else s.lamp n := by
    rw [State.withoutEntry, State.lamp_releaseChanOf, State.lamp_releaseLampOf]; rfl
  show (s.withoutEntry k v).clearFull.lamp n = _
  rw [State.lamp_clearFull, hlamp]
  by_cases hown : k = .lampOpen ∧ v = .lamp n
  · rw [if_pos hown, LampRec.releaseFailed_twice, ite_self]
  · rw [if_neg hown, if_pos ((State.bares_iff_of_ne hown).mp h)]

/-- The other lamps keep their records. -/
theorem State.lamp_removeEntry_of_not_bare (h : ¬s.Bares k v .lampOpen (.lamp n)) : (s.removeEntry k v).lamp n = s.lamp n := by
  have hown : ¬(k = .lampOpen ∧ v = .lamp n) := fun hown => h (.inl hown)
  have hlamp : (s.withoutEntry k v).lamp n = s.lamp n := by
    rw [State.withoutEntry, State.lamp_releaseChanOf, State.lamp_releaseLampOf, if_neg hown]; rfl
  show (s.withoutEntry k v).clearFull.lamp n = _
  rw [State.lamp_clearFull, hlamp, if_neg ((State.bares_iff_of_ne hown).not.mp h)]

/-- A removal releases the channels it leaves without an entry. -/
theorem State.chan_removeEntry (h : s.Bares k v .driverShort (.chan c)) : (s.removeEntry k v).chan c = (s.chan c).release := by
  have hchan : (s.withoutEntry k v).chan c = if k = .driverShort ∧ v = .chan c then (s.chan c).release else s.chan c := by
    rw [State.withoutEntry, State.chan_releaseChanOf, State.chan_releaseLampOf]; rfl
  show (s.withoutEntry k v).clearFull.chan c = _
  rw [State.chan_clearFull, hchan]
  by_cases hown : k = .driverShort ∧ v = .chan c
  · rw [if_pos hown, ChanRec.release_twice, ite_self]
  · rw [if_neg hown, if_pos ((State.bares_iff_of_ne hown).mp h)]

/-- The other channels keep their records. -/
theorem State.chan_removeEntry_of_not_bare (h : ¬s.Bares k v .driverShort (.chan c)) : (s.removeEntry k v).chan c = s.chan c := by
  have hown : ¬(k = .driverShort ∧ v = .chan c) := fun hown => h (.inl hown)
  have hchan : (s.withoutEntry k v).chan c = s.chan c := by
    rw [State.withoutEntry, State.chan_releaseChanOf, State.chan_releaseLampOf, if_neg hown]; rfl
  show (s.withoutEntry k v).clearFull.chan c = _
  rw [State.chan_clearFull, hchan, if_neg ((State.bares_iff_of_ne hown).not.mp h)]

/-! ### Acknowledgements -/

/-- The entry an ACK names is marked; the others stay. -/
def FaultEntry.ackedFor (k : FaultKind) (v : Subject) (e : FaultEntry) : FaultEntry :=
  if e.isFor k v then { e with acked := true } else e

theorem FaultEntry.isFor_ackedFor : (e.ackedFor k v).isFor k' v' = e.isFor k' v' := by
  unfold FaultEntry.ackedFor
  split <;> rfl

/-- An ACK at an entry that stands CLEARED removes it. -/
theorem State.acknowledge_cleared (h : ∃ e ∈ s.faults.entries, e.isFor k v = true ∧ e.active = false) :
    s.acknowledge k v = (s.setEntries (s.faults.entries.map (FaultEntry.ackedFor k v))).removeEntry k v := by
  refine if_pos ?_
  obtain ⟨e, he, hfor, hactive⟩ := h
  exact List.any_eq_true.mpr ⟨e, he, by simp [hfor, hactive]⟩

theorem State.acknowledge_marks (h : ¬∃ e ∈ s.faults.entries, e.isFor k v = true ∧ e.active = false) :
    s.acknowledge k v = s.setEntries (s.faults.entries.map (FaultEntry.ackedFor k v)) := by
  refine if_neg fun hany => h ?_
  obtain ⟨e, he, hboth⟩ := List.any_eq_true.mp hany
  exact ⟨e, he, by simpa using hboth⟩

/-- After an ACK every entry stands but the one it removed, and the one it names is marked. -/
theorem State.mem_acknowledge (hs : s.faults.Sound) : e ∈ (s.acknowledge k v).faults.entries ↔
    ∃ e' ∈ s.faults.entries, ¬(e'.isFor k v = true ∧ e'.active = false)
      ∧ e = if e'.isFor k v then { e' with acked := true } else e' := by
  by_cases hcleared : ∃ e ∈ s.faults.entries, e.isFor k v = true ∧ e.active = false
  · have hone : ∀ e' ∈ s.faults.entries, (e'.isFor k v = false ↔ ¬(e'.isFor k v = true ∧ e'.active = false)) := by
      obtain ⟨x, hx, hfor, hactive⟩ := hcleared
      intro e' he'
      refine ⟨fun h h' => Bool.false_ne_true (h.symm.trans h'.1), fun h => ?_⟩
      by_contra hfor'
      have hfor' := (Bool.not_eq_false _).mp hfor'
      exact h ⟨hfor', by rw [hs.eq_of_isFor he' hx hfor' hfor]; exact hactive⟩
    rw [State.acknowledge_cleared hcleared, State.entries_removeEntry]
    show e ∈ List.filter _ (List.map _ _) ↔ _
    simp only [List.mem_filter, List.mem_map, Bool.not_eq_true']
    constructor
    · rintro ⟨⟨e', he', rfl⟩, hfor⟩
      rw [FaultEntry.isFor_ackedFor] at hfor
      exact ⟨e', he', (hone e' he').mp hfor, rfl⟩
    · rintro ⟨e', he', hstands, rfl⟩
      exact ⟨⟨e', he', rfl⟩, FaultEntry.isFor_ackedFor.trans ((hone e' he').mpr hstands)⟩
  · rw [State.acknowledge_marks hcleared]
    show e ∈ List.map _ _ ↔ _
    simp only [List.mem_map]
    constructor
    · rintro ⟨e', he', rfl⟩
      exact ⟨e', he', fun h => hcleared ⟨e', he', h⟩, rfl⟩
    · rintro ⟨e', he', -, rfl⟩
      exact ⟨e', he', rfl⟩

/-- ACK ALL leaves the ACTIVE entries, acknowledged. -/
theorem State.entries_acknowledgeAll (hs : s.faults.Sound) : s.acknowledgeAll.faults.entries
    = (s.faults.entries.filter fun e => e.active).map fun e => { e with acked := true } := by
  unfold State.acknowledgeAll
  rw [State.entries_removeEntries]
  show List.filter _ (List.map _ s.faults.entries) = _
  rw [List.filter_map]
  refine congrArg (List.map _) (List.filter_congr fun e he => ?_)
  rw [Bool.eq_iff_iff]
  simp only [Function.comp_apply, List.all_eq_true, List.mem_filter, Bool.not_eq_true']
  constructor
  · intro hall
    by_contra hactive
    have hself : e.isFor e.kind e.subject = false := hall e ⟨he, by simpa using hactive⟩
    simp [FaultEntry.isFor] at hself
  · rintro hactive x ⟨hx, hcleared⟩
    rw [Bool.eq_false_iff]
    intro hfor
    have hfor' : e.isFor x.kind x.subject = true := hfor
    have hsame := hs.eq_of_isFor he hx hfor' ((x.isFor_iff _ _).mpr ⟨rfl, rfl⟩)
    rw [hsame, hcleared] at hactive
    cases hactive

theorem ackRule_refusedState (h : u.awake = false) : ackRule ps u = u.answer .refusedState := if_pos (by simp [h])

theorem ackRule_unparsed (h : u.awake = true) (hps : ackOfBytes ps = none) : ackRule ps u = u.answer .badParam := by
  unfold ackRule
  rw [if_neg (by simp [h])]
  simp only [hps]

theorem ackRule_acknowledges (h : u.awake = true) (hps : ackOfBytes ps = some (k, v)) :
    ackRule ps u = (u.acknowledge k v).finish.answer .accepted := by
  unfold ackRule
  rw [if_neg (by simp [h])]
  simp only [hps]

theorem ackAllRule_refusedState (h : u.awake = false) : ackAllRule u = u.answer .refusedState := if_pos (by simp [h])

theorem ackAllRule_acknowledges (h : u.awake = true) : ackAllRule u = u.acknowledgeAll.finish.answer .accepted :=
  if_neg (by simp [h])

theorem ackOfBytes_eq_none (h : ∀ x y, ps = [x, y] → ackOfBytes [x, y] = none) : ackOfBytes ps = none := by
  match ps with
  | [x, y] => exact h x y rfl
  | [] | [_] | _ :: _ :: _ :: _ => rfl

/-- Settles O51: each request marks and removes entries, and a removal releases what it leaves without an entry. -/
theorem acknowledgements : Obligations.Acknowledgements := by
  unfold Obligations.Acknowledgements
  refine ⟨fun s l tag hadm hawake => ⟨fun x y k subject hps => ?_, ?_, fun k subject hs e => State.mem_acknowledge hs⟩,
    fun s k subject => ⟨State.acknowledge_cleared, State.acknowledge_marks⟩,
    fun s l tag ps hadm => ⟨fun hawake => ⟨?_, ?_⟩, fun hawake hps => ?_⟩, fun s => ⟨rfl, State.entries_acknowledgeAll⟩,
    fun s k subject => ⟨State.faults_removeEntry k subject, fun n hfailed hbare => ?_, fun n h => ?_, fun c htripped hbare => ?_,
      fun c h => ?_, State.removeEntry_rest s k subject⟩⟩
  · exact exec_answered rfl rfl hadm (.inl (State.not_startup_of_awake hawake))
      (ackRule_acknowledges (u := s.withFrame l) hawake hps) rfl
  · exact exec_answered rfl rfl hadm (.inl (State.not_startup_of_awake hawake))
      (ackAllRule_acknowledges (u := s.withFrame l) hawake) rfl
  · exact exec_refusedState rfl rfl hadm rfl (ackRule_refusedState (u := s.withFrame l) hawake) rfl
  · exact exec_refusedState rfl rfl hadm rfl (ackAllRule_refusedState (u := s.withFrame l) hawake) rfl
  · exact exec_answered rfl rfl hadm (.inl (State.not_startup_of_awake hawake))
      (ackRule_unparsed (u := s.withFrame l) hawake (ackOfBytes_eq_none hps)) rfl
  · exact (State.lamp_removeEntry hbare).trans (LampRec.releaseFailed_of_failed hfailed)
  · by_cases hbare : s.Bares k subject .lampOpen (.lamp n)
    · have hfailed := h.resolve_right (not_not.mpr hbare)
      exact (State.lamp_removeEntry hbare).trans (LampRec.releaseFailed_of_not_failed hfailed)
    · exact State.lamp_removeEntry_of_not_bare hbare
  · exact (State.chan_removeEntry hbare).trans (ChanRec.release_of_tripped htripped)
  · by_cases hbare : s.Bares k subject .driverShort (.chan c)
    · have htripped := h.resolve_right (not_not.mpr hbare)
      exact (State.chan_removeEntry hbare).trans (ChanRec.release_of_not_tripped htripped)
    · exact State.chan_removeEntry_of_not_bare hbare

/-! ### Occurrences -/

/-- A present entry counts again. -/
theorem State.takeOccurrence_present (h : s.hasEntry k v = true) : s.takeOccurrence k v =
    s.setEntries (s.faults.entries.map fun e => if e.isFor k v then
      { e with count := min 255 (e.count + 1), acked := false, active := e.active || k.isCondition } else e) := by
  unfold State.takeOccurrence
  rw [if_pos h]
  refine congrArg s.setEntries (List.map_congr_left fun e _ => ?_)
  split
  next hfor =>
    obtain ⟨rfl, -⟩ := (e.isFor_iff k v).mp hfor
    rfl
  next => rfl

theorem State.takeOccurrence_room (h : s.hasEntry k v = false) (hroom : s.faults.entries.length < 16) :
    s.takeOccurrence k v = s.appendEntry k v := by
  unfold State.takeOccurrence
  rw [if_neg (by simp [h]), if_pos hroom]

theorem State.takeOccurrence_evicts (h : s.hasEntry k v = false) (hfull : ¬s.faults.entries.length < 16)
    (he : s.evictable = some e) : s.takeOccurrence k v = (s.removeEntry e.kind e.subject).appendEntry k v := by
  unfold State.takeOccurrence
  rw [if_neg (by simp [h]), if_neg hfull, he]

theorem State.takeOccurrence_dropped (h : s.hasEntry k v = false) (hfull : ¬s.faults.entries.length < 16)
    (he : s.evictable = none) : s.takeOccurrence k v = s.dropOccurrence := by
  unfold State.takeOccurrence
  rw [if_neg (by simp [h]), if_neg hfull, he]

theorem Tables.blocking_eq_false_iff {t : Tables} : t.blocking e = false ↔ ¬∃ a k, t.Covered e a k := by
  rw [← Tables.blocking_iff, Bool.not_eq_true]

/-- A CLEARED entry that blocks no stroke is found first-to-last; an ACTIVE one only where there is none. -/
theorem State.evictable_eq_some (p q : FaultEntry → Prop)
    (hp : ∀ e, (!e.active && !s.tables.blocking e) = true ↔ p e) (hq : ∀ e, (e.active && !s.tables.blocking e) = true ↔ q e)
    (h : (∃ before rest, s.faults.entries = before ++ e :: rest ∧ p e ∧ ∀ x ∈ before, ¬p x)
      ∨ ((∀ x ∈ s.faults.entries, ¬p x) ∧ ∃ before rest, s.faults.entries = before ++ e :: rest ∧ q e ∧ ∀ x ∈ before, ¬q x)) :
    s.evictable = some e := by
  unfold State.evictable
  obtain ⟨before, rest, hes, he, hbefore⟩ | ⟨hnone, before, rest, hes, he, hbefore⟩ := h
  · have hfind : (s.faults.entries.find? fun e => !e.active && !s.tables.blocking e) = some e :=
      List.find?_eq_some_iff_append.mpr ⟨(hp e).mpr he, before, rest, hes,
        fun x hx => by rw [Bool.not_eq_true', Bool.eq_false_iff]; exact fun h => hbefore x hx ((hp x).mp h)⟩
    rw [hfind]
  · rw [List.find?_eq_none.mpr fun x hx h => hnone x hx ((hp x).mp h)]
    exact List.find?_eq_some_iff_append.mpr ⟨(hq e).mpr he, before, rest, hes,
      fun x hx => by rw [Bool.not_eq_true', Bool.eq_false_iff]; exact fun h => hbefore x hx ((hq x).mp h)⟩

theorem State.evictable_eq_none (h : ∀ e ∈ s.faults.entries, s.tables.blocking e = true) : s.evictable = none := by
  unfold State.evictable
  rw [List.find?_eq_none.mpr fun x hx => by simp [h x hx]]
  exact List.find?_eq_none.mpr fun x hx => by simp [h x hx]

theorem FaultKind.isCondition_iff : k.isCondition = true ↔
    k ∈ [FaultKind.estop, .sensorRange, .sensorLost, .hatchSwitch, .pumpStuck, .lowSupply] := by
  cases k <;> decide

theorem State.hasEntry_iff : s.hasEntry k v = true ↔ ∃ e ∈ s.faults.entries, e.kind = k ∧ e.subject = v := by
  simp only [State.hasEntry, List.any_eq_true, FaultEntry.isFor_iff]

/-- Settles O53: a present entry counts, an absent one is appended, and a full table gives one up or drops the occurrence. -/
theorem occurrencesAreRecorded : Obligations.OccurrencesAreRecorded := by
  unfold Obligations.OccurrencesAreRecorded
  intro s k subject fresh blocks oldest spent standing
  refine ⟨State.hasEntry_iff, FaultKind.isCondition_iff, State.takeOccurrence_present, State.takeOccurrence_room,
    fun habsent hlength => ?_⟩
  have hfull : ¬s.faults.entries.length < 16 := by omega
  refine ⟨fun e he => ⟨?_, State.faults_removeEntry _ _⟩, fun hblock => ?_⟩
  · refine State.takeOccurrence_evicts habsent hfull (State.evictable_eq_some spent standing (fun x => ?_) (fun x => ?_) he)
    · simp only [Bool.and_eq_true, Bool.not_eq_true', Tables.blocking_eq_false_iff]
      rfl
    · simp only [Bool.and_eq_true, Bool.not_eq_true', Tables.blocking_eq_false_iff]
      rfl
  · exact State.takeOccurrence_dropped habsent hfull
      (State.evictable_eq_none fun e he => Tables.blocking_iff.mpr (hblock e he))

end Sys2Proof.Machine

/-! O54: entering CONFIG and committing the tables. -/

namespace Sys2Proof.Machine

variable {s u : State} {l : Link} {tag : Byte} {ps : List Byte} {t : Tables}

/-! ### The first index a check finds -/

theorem find?_finRange_eq_some {n : Nat} {p : Fin n → Bool} {q : Fin n → Prop} (hpq : ∀ i, p i = true ↔ q i) {i : Fin n}
    (h : FirstAt q i) : (List.finRange n).find? p = some i := by
  rw [List.find?_eq_some_iff_getElem]
  refine ⟨(hpq i).mpr h.1, i.val, by simp, by simp, fun j hj => ?_⟩
  rw [Bool.not_eq_true', Bool.eq_false_iff]
  exact fun hp => h.2 _ (by simpa [Fin.lt_def] using hj) ((hpq _).mp hp)

theorem find?_finRange_eq_none {n : Nat} {p : Fin n → Bool} {q : Fin n → Prop} (hpq : ∀ i, p i = true ↔ q i)
    (h : ∀ i, ¬q i) : (List.finRange n).find? p = none :=
  List.find?_eq_none.mpr fun i _ hp => h i ((hpq i).mp hp)

/-! ### The checks of a commit -/

theorem Tables.mapOffends_iff {c : Chan} : t.mapOffends c = true ↔ ∃ f, t.outputMap.get c = some f
    ∧ ((∃ d, d < c ∧ t.outputMap.get d = some f) ∨ (f = .lower ∧ 3 < c.val)) := by
  unfold Tables.mapOffends
  cases hf : t.outputMap.get c with
  | none => simp
  | some f => simp

theorem Tables.refOk_eq_false_iff {r : Option (Fin 32)} : t.refOk r = false ↔ ∃ j, r = some j ∧ t.steps.get j = .empty := by
  unfold Tables.refOk
  cases r <;> simp

/-- A step names another step, on success or on failure. -/
def Tables.Names (t : Tables) (i j : Fin 32) : Prop :=
  (∃ m, t.steps.get i = .motion m ∧ (m.next = some j ∨ m.onFail = some j))
    ∨ ∃ w, t.steps.get i = .wait w ∧ (w.next = some j ∨ w.onFail = some j)

theorem Tables.stepRefsOk_iff {i : Fin 32} : (!t.stepRefsOk (t.steps.get i)) = true ↔
    ∃ j, t.Names i j ∧ t.steps.get j = .empty := by
  unfold Tables.Names Tables.stepRefsOk
  cases hr : t.steps.get i with
  | empty => simp
  | motion m | wait m =>
    simp only [Bool.not_eq_true', Bool.and_eq_false_iff, Tables.refOk_eq_false_iff]
    constructor
    · rintro (⟨j, hj, he⟩ | ⟨j, hj, he⟩) <;> exact ⟨j, by simp [hj], he⟩
    · rintro ⟨j, hnames, he⟩
      simp only [StepRecord.motion.injEq, StepRecord.wait.injEq, exists_eq_left', reduceCtorEq, false_and, exists_false,
        or_false, false_or] at hnames
      exact hnames.imp (fun h => ⟨j, h, he⟩) (fun h => ⟨j, h, he⟩)

theorem Tables.entryRefOk_iff {i : Fin 8} : (!t.refOk (t.entries.get i).first) = true ↔
    ∃ j, (t.entries.get i).first = some j ∧ t.steps.get j = .empty := by
  rw [Bool.not_eq_true', Tables.refOk_eq_false_iff]

theorem Tables.stepRunOk_iff {i : Fin 32} : (!t.stepRunOk (t.steps.get i)) = true ↔
    ∃ m, t.steps.get i = .motion m ∧ (t.policy.get (strokeIx m.actuator m.stroke)).run = false := by
  unfold Tables.stepRunOk
  cases t.steps.get i <;> simp

/-- The checks of the references and of the modes, behind those of the map, the profile and the scaling. -/
def Tables.stepFailure (t : Tables) : Option (Byte × Byte) :=
  match (List.finRange 32).find? fun i => !t.stepRefsOk (t.steps.get i) with
  | some i => some (0x07, byte i.val)
  | none =>
    match (List.finRange 8).find? fun i => !t.refOk (t.entries.get i).first with
    | some i => some (0x08, byte i.val)
    | none => ((List.finRange 32).find? fun i => !t.stepRunOk (t.steps.get i)).map fun i => (0x07, byte i.val)

theorem Tables.commitFailure_of_map {c : Chan} (h : (List.finRange 12).find? t.mapOffends = some c) :
    t.commitFailure = some (0x01, byte c.val) := by
  unfold Tables.commitFailure
  rw [h]

/-- With the map right, the profile and the scaling are looked at. -/
theorem Tables.commitFailure_of_mapRight (h : (List.finRange 12).find? t.mapOffends = none) : t.commitFailure =
    if t.profile.umax ≤ t.profile.umin then some (0x05, 0)
    else if t.scaling.hmax < t.scaling.hbed ∨ t.scaling.tspan < t.scaling.tclose then some (0x04, 0)
    else t.stepFailure := by
  unfold Tables.commitFailure Tables.stepFailure
  rw [h] <;> rfl

theorem Tables.stepFailure_of_refs {i : Fin 32} (h : (List.finRange 32).find? (fun i => !t.stepRefsOk (t.steps.get i)) = some i) :
    t.stepFailure = some (0x07, byte i.val) := by
  unfold Tables.stepFailure
  rw [h]

theorem Tables.stepFailure_of_entries {i : Fin 8} (h : (List.finRange 32).find? (fun i => !t.stepRefsOk (t.steps.get i)) = none)
    (hi : (List.finRange 8).find? (fun i => !t.refOk (t.entries.get i).first) = some i) :
    t.stepFailure = some (0x08, byte i.val) := by
  unfold Tables.stepFailure
  rw [h]
  dsimp only
  rw [hi]

theorem Tables.stepFailure_of_modes (h : (List.finRange 32).find? (fun i => !t.stepRefsOk (t.steps.get i)) = none)
    (hi : (List.finRange 8).find? (fun i => !t.refOk (t.entries.get i).first) = none) :
    t.stepFailure = ((List.finRange 32).find? fun i => !t.stepRunOk (t.steps.get i)).map fun i => (0x07, byte i.val) := by
  unfold Tables.stepFailure
  rw [h]
  dsimp only
  rw [hi]

/-- The five checks of a commit, in their order. -/
theorem commitChecks (t : Tables) :
    let offends := fun c : Chan => ∃ f, t.outputMap.get c = some f
      ∧ ((∃ d, d < c ∧ t.outputMap.get d = some f) ∨ (f = .lower ∧ 3 < c.val))
    let names := fun i j : Fin 32 =>
      (∃ m, t.steps.get i = .motion m ∧ (m.next = some j ∨ m.onFail = some j))
        ∨ ∃ w, t.steps.get i = .wait w ∧ (w.next = some j ∨ w.onFail = some j)
    let dangles := fun i : Fin 32 => ∃ j, names i j ∧ t.steps.get j = .empty
    let lost := fun i : Fin 8 => ∃ j, (t.entries.get i).first = some j ∧ t.steps.get j = .empty
    let heldOnly := fun i : Fin 32 => ∃ m, t.steps.get i = .motion m
      ∧ (t.policy.get (strokeIx m.actuator m.stroke)).run = false
    let mapRight := ∀ c, ¬offends c
    let profileRight := t.profile.umin < t.profile.umax
    let scalingRight := t.scaling.hbed ≤ t.scaling.hmax ∧ t.scaling.tclose ≤ t.scaling.tspan
    let stepsRight := ∀ i, ¬dangles i
    let entriesRight := ∀ i, ¬lost i
    (∀ c, FirstAt offends c → t.commitFailure = some (0x01, byte c.val))
      ∧ (mapRight → ¬profileRight → t.commitFailure = some (0x05, 0))
      ∧ (mapRight → profileRight → ¬scalingRight → t.commitFailure = some (0x04, 0))
      ∧ (mapRight → profileRight → scalingRight → ∀ i, FirstAt dangles i → t.commitFailure = some (0x07, byte i.val))
      ∧ (mapRight → profileRight → scalingRight → stepsRight → ∀ i, FirstAt lost i →
          t.commitFailure = some (0x08, byte i.val))
      ∧ (mapRight → profileRight → scalingRight → stepsRight → entriesRight → ∀ i, FirstAt heldOnly i →
          t.commitFailure = some (0x07, byte i.val))
      ∧ (mapRight → profileRight → scalingRight → stepsRight → entriesRight → (∀ i, ¬heldOnly i) →
          t.commitFailure = none) := by
  intro offends names dangles lost heldOnly mapRight profileRight scalingRight stepsRight entriesRight
  have hmap (h : mapRight) := Tables.commitFailure_of_mapRight (find?_finRange_eq_none (fun c => Tables.mapOffends_iff) h)
  have hscaling (h : mapRight) (hp : profileRight) (hs : scalingRight) : t.commitFailure = t.stepFailure := by
    rw [hmap h, if_neg (Nat.not_le.mpr hp), if_neg (by omega)]
  have hsteps (h : stepsRight) := find?_finRange_eq_none (fun i => t.stepRefsOk_iff (i := i)) h
  have hentries (h : entriesRight) := find?_finRange_eq_none (fun i => t.entryRefOk_iff (i := i)) h
  refine ⟨fun c hc => ?_, fun h hp => ?_, fun h hp hs => ?_, fun h hp hs i hi => ?_, fun h hp hs hst i hi => ?_,
    fun h hp hs hst hen i hi => ?_, fun h hp hs hst hen hno => ?_⟩
  · exact Tables.commitFailure_of_map (find?_finRange_eq_some (fun c => Tables.mapOffends_iff) hc)
  · rw [hmap h, if_pos (Nat.not_lt.mp hp)]
  · rw [hmap h, if_neg (Nat.not_le.mpr hp), if_pos (by omega)]
  · rw [hscaling h hp hs]
    exact Tables.stepFailure_of_refs (find?_finRange_eq_some (fun i => t.stepRefsOk_iff (i := i)) hi)
  · rw [hscaling h hp hs]
    exact Tables.stepFailure_of_entries (hsteps hst) (find?_finRange_eq_some (fun i => t.entryRefOk_iff (i := i)) hi)
  · rw [hscaling h hp hs, Tables.stepFailure_of_modes (hsteps hst) (hentries hen),
      find?_finRange_eq_some (fun i => t.stepRunOk_iff (i := i)) hi]
    rfl
  · rw [hscaling h hp hs, Tables.stepFailure_of_modes (hsteps hst) (hentries hen),
      find?_finRange_eq_none (fun i => t.stepRunOk_iff (i := i)) hno]
    rfl

/-! ### CONFIG_ENTER -/

theorem configEnterRule_refusedState (h : ¬(u.device.state = .unconfigured ∨ u.device.state = .ready)) :
    configEnterRule l ps u = u.answer .refusedState := by
  unfold configEnterRule
  cases hs : u.device.state
  case unconfigured | ready => simp [hs] at h
  case startup | config | stopped | dormant => rfl

theorem configEnterRule_badParam (h : u.device.state = .unconfigured ∨ u.device.state = .ready) (hps : ps ≠ []) :
    configEnterRule l ps u = u.answer .badParam := by
  unfold configEnterRule
  obtain h | h := h <;> simp only [h, if_pos hps]

theorem configEnterRule_enters (h : u.device.state = .unconfigured
    ∨ (u.device.state = .ready ∧ u.slotsIdle = true ∧ u.contextsIdle = true)) :
    configEnterRule l [] u = (u.enterConfig l).finish.answer .accepted := by
  unfold configEnterRule
  obtain h | ⟨h, hslots, hcontexts⟩ := h
  · simp only [h, ne_eq, not_true_eq_false, if_false]
  · simp only [h, hslots, hcontexts, ne_eq, not_true_eq_false, if_false, Bool.and_self, if_true]

theorem configEnterRule_busy (h : u.device.state = .ready) (hbusy : u.slotsIdle = false ∨ u.contextsIdle = false) :
    configEnterRule l [] u = u.answer .busy := by
  have hboth : (u.slotsIdle && u.contextsIdle) = false := Bool.and_eq_false_iff.mpr hbusy
  unfold configEnterRule
  simp only [h, hboth, ne_eq, not_true_eq_false, if_false, Bool.false_eq_true]

/-! ### CONFIG_COMMIT -/

theorem configCommitRule_refusedState (h : u.device.state ≠ .config) : configCommitRule l ps u = u.answer .refusedState := if_pos h

theorem configCommitRule_notOwner (h : u.device.state = .config) (ho : u.device.owner ≠ some l) :
    configCommitRule l ps u = u.answer .notOwner := (if_neg (not_not.mpr h)).trans (if_pos ho)

theorem configCommitRule_badParam (h : u.device.state = .config) (ho : u.device.owner = some l) (hps : ps ≠ []) :
    configCommitRule l ps u = u.answer .badParam :=
  (if_neg (not_not.mpr h)).trans ((if_neg (not_not.mpr ho)).trans (if_pos hps))

theorem configCommitRule_commits (h : u.device.state = .config) (ho : u.device.owner = some l) (hf : u.tables.commitFailure = none) :
    configCommitRule l [] u = u.commit.finish.answer .accepted := by
  refine (if_neg (not_not.mpr h)).trans ((if_neg (not_not.mpr ho)).trans ((if_neg (not_not.mpr rfl)).trans ?_))
  rw [hf]

theorem configCommitRule_invalid {table index : Byte} (h : u.device.state = .config) (ho : u.device.owner = some l)
    (hf : u.tables.commitFailure = some (table, index)) :
    configCommitRule l [] u = ⟨.configInvalid, [table, index], u, false⟩ := by
  refine (if_neg (not_not.mpr h)).trans ((if_neg (not_not.mpr ho)).trans ((if_neg (not_not.mpr rfl)).trans ?_))
  rw [hf]

/-- Settles O54: the device state, the owner and the parameters are looked at in that order, then the tables. -/
theorem configEntersAndCommits : Obligations.ConfigEntersAndCommits := by
  unfold Obligations.ConfigEntersAndCommits
  refine ⟨fun s l tag hadm => ⟨fun h => ?_, fun h hbusy => ?_, fun h ho hf => ?_, fun h ho table index hf => ?_,
    fun ps => ⟨fun h => ?_, fun h hps => ?_, fun h => ?_, fun h ho => ?_, fun h ho hps => ?_⟩⟩, commitChecks⟩
  · have hserved : s.device.state ≠ .startup ∨ false = true := .inl (by obtain h | h := h <;> simp [h])
    exact exec_answered rfl rfl hadm hserved (configEnterRule_enters (u := s.withFrame l) h) rfl
  · exact exec_answered rfl rfl hadm (.inl (by simp [h])) (configEnterRule_busy (u := s.withFrame l) h hbusy) rfl
  · exact exec_answered rfl rfl hadm (.inl (by simp [h])) (configCommitRule_commits (u := s.withFrame l) h ho hf) rfl
  · exact exec_answered rfl rfl hadm (.inl (by simp [h])) (configCommitRule_invalid (u := s.withFrame l) h ho hf) rfl
  · exact exec_refusedState rfl rfl hadm rfl (configEnterRule_refusedState (u := s.withFrame l) h) rfl
  · have hserved : s.device.state ≠ .startup ∨ false = true := .inl (by obtain h | h := h <;> simp [h])
    exact exec_answered rfl rfl hadm hserved (configEnterRule_badParam (u := s.withFrame l) h hps) rfl
  · exact exec_refusedState rfl rfl hadm rfl (configCommitRule_refusedState (u := s.withFrame l) h) rfl
  · exact exec_answered rfl rfl hadm (.inl (by simp [h])) (configCommitRule_notOwner (u := s.withFrame l) h ho) rfl
  · exact exec_answered rfl rfl hadm (.inl (by simp [h])) (configCommitRule_badParam (u := s.withFrame l) h ho hps) rfl

end Sys2Proof.Machine

/-! O60: the part right after reset. -/

namespace Sys2Proof.Machine

theorem State.reset_faultsSound : State.reset.faults.Sound :=
  ⟨Nat.zero_le _, List.Pairwise.nil, fun _ h => absurd h List.not_mem_nil⟩

theorem State.reset_capturesSound : State.reset.CapturesSound :=
  State.CapturesSound.congr (s := State.reset.resetBlocks .powerOn) rfl rfl (State.resetBlocks_capturesSound _)

theorem State.reset_powerSafe : State.reset.PowerSafe :=
  .of_undriven fun c => .inl (by simp [State.chan, State.reset, resetBank, resetChan])

/-- In STARTUP every derived record stands at its reset value. -/
theorem State.reset_derive : State.reset.derive = State.reset := by
  refine State.derive_of_settled (fun g => ?hatches) ?conds (fun n => ?lamps) ?readiness (fun f => ?requests)
    (fun c => ?channels) ?stuck
  case hatches => cases g <;> decide
  case conds => decide
  case lamps => revert n; decide
  case readiness => decide
  case requests => cases f <;> decide
  case channels => revert c; decide
  case stuck => decide

/-- Settles O60: the slots rest, the tables of faults and captures are empty, nothing is driven, and STARTUP derives nothing new. -/
theorem resetMeetsTheInvariants : Obligations.ResetMeetsTheInvariants := by
  unfold Obligations.ResetMeetsTheInvariants
  obtain ⟨hagrees, hslots, hrests⟩ := State.orderly_iff.mp State.reset_orderly
  exact ⟨hagrees, hslots, hrests, State.reset_faultsSound, State.reset_capturesSound, State.reset_powerSafe,
    .of_ne (by decide), rfl, State.reset_derive⟩

end Sys2Proof.Machine

/-! O55: writing a configuration record. -/

namespace Sys2Proof.Machine

variable {s u : State} {l : Link} {tag table index : Byte} {ps bs : List Byte} {t : Tables} {r : Record} {i : Input}

/-! ### The place of a record -/

/-- The place of a record, as its table code and its index name it (R179). -/
def Record.At : Record → Byte → Byte → Prop
  | .outputMap i _, table, index => table.toNat = 1 ∧ indexOfByte 12 index = some i
  | .inputSetup i _, table, index => table.toNat = 2 ∧ indexOfByte 13 index = some i
  | .policy i _, table, index => table.toNat = 3 ∧ indexOfByte 8 index = some i
  | .scaling _, table, index => table.toNat = 4 ∧ index = 0
  | .profile _, table, index => table.toNat = 5 ∧ index = 0
  | .lamp i _, table, index => table.toNat = 6 ∧ indexOfByte 4 index = some i
  | .step i _, table, index => table.toNat = 7 ∧ indexOfByte 32 index = some i
  | .entry i _, table, index => table.toNat = 8 ∧ indexOfByte 8 index = some i
  | .timing _, table, index => table.toNat = 9 ∧ index = 0

/-- A record that is written stands at the place its bytes name. -/
theorem Record.at_of_ofBytes (h : Record.ofBytes table index bs = some r) : r.At table index := by
  unfold Record.ofBytes at h
  split at h
  case h_1 htable =>
    obtain ⟨c, hc, h⟩ := Option.bind_eq_some_iff.mp h
    split at h
    next => obtain ⟨f, -, h⟩ := Option.bind_eq_some_iff.mp h; cases h; exact ⟨htable, hc⟩
    next => cases h
  case h_10 => cases h
  case h_4 htable | h_5 htable | h_9 htable =>
    split at h
    next hindex => obtain ⟨x, -, rfl⟩ := Option.map_eq_some_iff.mp h; exact ⟨htable, hindex⟩
    next => cases h
  case h_2 htable | h_3 htable | h_6 htable | h_7 htable | h_8 htable =>
    obtain ⟨i, hi, h⟩ := Option.bind_eq_some_iff.mp h
    obtain ⟨x, -, h⟩ := Option.bind_eq_some_iff.mp h
    cases h
    exact ⟨htable, hi⟩

/-- Ranges do not move a record. -/
theorem Record.at_clamp (h : r.At table index) : r.clamp.At table index := by
  cases r <;> exact h

/-- Reading a place back gives the record stored there. -/
theorem Tables.record_store (h : r.At table index) : (t.store r).record table index = some r := by
  cases r
  case outputMap | inputSetup | policy | lamp | step | entry =>
    obtain ⟨htable, hindex⟩ := h
    simp only [Tables.record, htable, hindex, Tables.store, Option.map_some, Table.get_set_self]
  case scaling | profile | timing =>
    obtain ⟨htable, rfl⟩ := h
    simp only [Tables.record, htable, Tables.store, if_true]

/-- A write stores its record, and the blocks that take it leave the tables so. -/
theorem State.tables_writeRecord : (s.writeRecord r).tables = s.tables.store r := by
  cases r
  case inputSetup i x =>
    have hix : (Input.ofIx i).ix = i := by revert i; decide
    show (s.writeInput (Input.ofIx i) x).tables = _
    unfold State.writeInput
    dsimp only
    split
    · rw [show ∀ v : State, (v.inputChanged (Input.ofIx i)).tables = v.tables from
        fun v => congrArg Surroundings.tables (State.inputChanged_around v _)]
      simp only [State.setInput_tables, hix, Tables.store]
    · simp only [State.setInput_tables, hix, Tables.store]
  case outputMap | policy | scaling | profile | lamp | step | entry | timing => rfl

/-! ### The request -/

theorem configWriteRule_refusedState (h : u.device.state ≠ .config) : configWriteRule l ps u = u.answer .refusedState := if_pos h

theorem configWriteRule_notOwner (h : u.device.state = .config) (ho : u.device.owner ≠ some l) :
    configWriteRule l ps u = u.answer .notOwner := (if_neg (not_not.mpr h)).trans (if_pos ho)

/-- A write from the owner in CONFIG comes to its record. -/
theorem configWriteRule_writes (h : u.device.state = .config) (ho : u.device.owner = some l) (hr : writtenRecord ps = some r) :
    configWriteRule l ps u = u.takeWrite r := by
  refine (if_neg (not_not.mpr h)).trans ((if_neg (not_not.mpr ho)).trans ?_)
  rw [hr]

theorem configWriteRule_badParam (h : u.device.state = .config) (ho : u.device.owner = some l) (hr : writtenRecord ps = none) :
    configWriteRule l ps u = u.answer .badParam := by
  refine (if_neg (not_not.mpr h)).trans ((if_neg (not_not.mpr ho)).trans ?_)
  rw [hr]

theorem writtenRecord_eq_none (h : ∀ table index bs, ps = table :: index :: bs → Record.ofBytes table index bs = none) :
    writtenRecord ps = none := by
  match ps with
  | [] | [_] => rfl
  | table :: index :: bs => exact h table index bs rfl

/-! ### Ranges -/

theorem clampTo_eq {low high : Nat} (h : low ≤ high) (n : Nat) :
    clampTo low high n = if n < low then low else if high < n then high else n := by
  unfold clampTo
  split
  · omega
  split <;> omega

theorem clampOn_eq (n : Nat) : clampOn n = if 1 ≤ n ∧ n ≤ 5 then 6 else n := by
  unfold clampOn
  split
  · subst n; rfl
  split <;> omega

theorem Pattern.clamp_eq (p : Pattern) : p.clamp = { p with on := if 1 ≤ p.on ∧ p.on ≤ 5 then 6 else p.on } := by
  rw [Pattern.clamp, clampOn_eq]

/-- A step's target is brought to its limit from above only. -/
theorem min_eq_range (high : Nat) : (fun n : Nat => min n high) = fun n => if n < 0 then 0 else if high < n then high else n := by
  funext n
  rw [if_neg (Nat.not_lt_zero n)]
  split <;> omega

/-- The range of every field of every record. -/
theorem recordRanges :
    let range := fun low high n : Nat => if n < low then low else if high < n then high else n
    let pattern := fun p : Pattern => { p with on := if 1 ≤ p.on ∧ p.on ≤ 5 then 6 else p.on }
    (∀ i f, (Record.outputMap i f).clamp = .outputMap i f) ∧ (∀ i r, (Record.inputSetup i r).clamp = .inputSetup i r)
      ∧ (∀ i r, (Record.entry i r).clamp = .entry i r)
      ∧ (∀ i r, (Record.policy i r).clamp
          = .policy i { r with priority := range 0 7 r.priority, runLimit := range 1 120 r.runLimit })
      ∧ (∀ r, (Record.scaling r).clamp = .scaling ⟨range 300 2500 r.hmax, range 100 2500 r.hbed, range 300 1800 r.tspan,
          range 100 1800 r.tclose, range 2 30 r.sbH, range 2 50 r.sbT⟩)
      ∧ (∀ r, (Record.profile r).clamp = .profile ⟨range 100 600 r.umin, range 150 1000 r.umax, range 20 400 r.zone,
          range 0 40 r.load, range 5 200 r.rup, range 5 200 r.rdown, range 50 350 r.pover⟩)
      ∧ (∀ n r, (Record.lamp n r).clamp = .lamp n { r with
          motion := pattern r.motion, fault := pattern r.fault, manual := pattern r.manual
          trail := range 0 10000 r.trail })
      ∧ (∀ i, (Record.step i .empty).clamp = .step i .empty)
      ∧ (∀ i m, m.actuator = .lift → (Record.step i (.motion m)).clamp
          = .step i (.motion { m with target := m.target.map (range 0 2500), limit := range 1 600 m.limit }))
      ∧ (∀ i m, m.actuator = .tilt → (Record.step i (.motion m)).clamp
          = .step i (.motion { m with target := m.target.map (range 0 1800), limit := range 1 600 m.limit }))
      ∧ (∀ i m, m.actuator.hatch? ≠ none → m.target = none → (Record.step i (.motion m)).clamp
          = .step i (.motion { m with limit := range 1 600 m.limit }))
      ∧ (∀ i w, (Record.step i (.wait w)).clamp = .step i (.wait { w with limit := range 1 600 w.limit }))
      ∧ (∀ r, (Record.timing r).clamp = .timing ⟨range 10 50 r.refresh, range 0 2000 r.lead, range 0 10000 r.trailBase,
          range 200 2000 r.primeLimit, range 1 60 r.dormancy⟩) := by
  intro range pattern
  have hrange {low high : Nat} (h : low ≤ high) (n : Nat) : clampTo low high n = range low high n := clampTo_eq h n
  refine ⟨fun i f => rfl, fun i r => rfl, fun i r => rfl, fun i r => ?_, fun r => ?_, fun r => ?_, fun n r => ?_, fun i => rfl,
    fun i m hm => ?_, fun i m hm => ?_, fun i m _ hm => ?_, fun i w => ?_, fun r => ?_⟩
  · simp only [Record.clamp, Policy.clamp, hrange, Nat.zero_le, Nat.reduceLeDiff]
  · simp only [Record.clamp, Scaling.clamp, hrange, Nat.reduceLeDiff]
  · simp only [Record.clamp, ProfileCfg.clamp, hrange, Nat.zero_le, Nat.reduceLeDiff]
  · simp only [Record.clamp, LampCfg.clamp, Pattern.clamp_eq, hrange, Nat.zero_le]
    rfl
  · simp only [Record.clamp, StepRecord.clamp, hm, stepTargetMax, min_eq_range, hrange, Nat.reduceLeDiff]
    rfl
  · simp only [Record.clamp, StepRecord.clamp, hm, stepTargetMax, min_eq_range, hrange, Nat.reduceLeDiff]
    rfl
  · simp only [Record.clamp, StepRecord.clamp, hm, Option.map_none, hrange, Nat.reduceLeDiff]
  · simp only [Record.clamp, StepRecord.clamp, hrange, Nat.reduceLeDiff]
  · simp only [Record.clamp, Timing.clamp, hrange, Nat.zero_le, Nat.reduceLeDiff]

/-! ### What a write does beside -/

/-- The pattern of the class in force begins again. -/
theorem LampRec.restart_begins {q : LampRec} {cfg : LampCfg} {on : Bool} (h : q.cls ≠ .none) :
    (q.restart cfg on).Begins (q.patternOf cfg q.cls) on
      ∧ q.restart cfg on = { q with
        phaseOn := (q.restart cfg on).phaseOn, phaseTimer := (q.restart cfg on).phaseTimer, prove := (q.restart cfg on).prove }
      ∧ (q.restart cfg on).prove
        = if (q.restart cfg on).phaseOn = false then none else if q.phaseOn = true then q.prove else some 0 := by
  have hrestart : q.restart cfg on = (q.startPattern (q.patternOf cfg q.cls) on).proveAfter q.lit := if_neg h
  have hbegins := q.begins_startPattern (q.patternOf cfg q.cls) on
  have hrest := q.startPattern_rest (q.patternOf cfg q.cls) on
  generalize q.startPattern (q.patternOf cfg q.cls) on = p at hrestart hbegins hrest
  rw [hrestart, LampRec.proveAfter_eq]
  refine ⟨hbegins.congr rfl rfl, ?_, ?_⟩
  · rw [hrest]
  · rw [hrest]
    simp [LampRec.lit, h]

theorem State.writeLamp_of_dark {n : Lamp} {x : LampCfg} (h : (s.lamp n).cls = .none) :
    s.writeRecord (.lamp n x) = { s with tables := s.tables.store (.lamp n x) } := by
  have hrestart : (s.lamp n).restart x true = s.lamp n := if_pos h
  show ({ s with tables := s.tables.store (.lamp n x) } : State).setLamp n ((s.lamp n).restart x true) = _
  rw [hrestart]
  exact congrArg (fun lamps => { s with tables := s.tables.store (.lamp n x), lamps := lamps }) (Table.set_get_self s.lamps n)

/-- The level compared for an input: SPEED's after its polarity, another input's as it is read (R44). -/
def comparedLevel (i : Input) (p : Polarity) (v : Bool) : Bool := if i = .speed ∧ p = .activeLow then !v else v

theorem State.sensed_eq {v : Bool} : s.sensed i v = comparedLevel i (s.setup i).polarity v := by
  unfold State.sensed comparedLevel
  by_cases hi : i = .speed
  · subst hi
    cases (s.setup .speed).polarity <;> rfl
  · simp [hi]

theorem State.stability_eq {v : Bool} : s.stability i v =
    if s.device.state = .dormant ∨ (s.input i).debounced = some v then none else some 0 := by
  unfold State.stability
  by_cases hd : s.device.state = .dormant
  · simp [hd]
  · simp [hd]

/-- The level of an undriven pin follows a new bias. -/
theorem State.levelAfterWrite_eq {x : InputSetup} : s.levelAfterWrite i x = if x.bias = (s.setup i).bias then (s.input i).level
    else match (s.input i).drive, x.bias with
      | .high, _ => true
      | .low, _ => false
      | .undriven, .up => true
      | .undriven, .down => false
      | .undriven, .none => Config.floatingLevel s.draws := by
  unfold State.levelAfterWrite
  refine if_congr Iff.rfl rfl ?_
  cases (s.input i).drive <;> cases x.bias <;> rfl

/-- An input with its new setup stored, before its readers take a changed polarity. -/
def State.writtenInput (s : State) (i : Input) (x : InputSetup) : State :=
  let level := s.levelAfterWrite i x
  let now := comparedLevel i x.polarity level
  ({ s with tables := s.tables.store (.inputSetup i.ix x), draws := s.draws + 1 }).setInput i { s.input i with
    level := level
    timer := if now = comparedLevel i (s.setup i).polarity (s.input i).level then (s.input i).timer
      else if s.device.state = DeviceState.dormant ∨ (s.input i).debounced = some now then none
      else some 0 }

/-- A write to an input's setup moves its level and its timer, and a changed polarity is taken by the readers of a settled
input. -/
theorem State.writeInput_eq {x : InputSetup} : s.writeInput i x =
    if x.polarity ≠ (s.setup i).polarity ∧ (s.input i).debounced ≠ none then (s.writtenInput i x).inputChanged i
    else s.writtenInput i x := by
  let stored : State := { s with tables := s.tables.store (.inputSetup i.ix x), draws := s.draws + 1 }
  have hsetup : stored.setup i = x := Table.get_set_self _ _ _
  have hsensed (v : Bool) : stored.sensed i v = comparedLevel i x.polarity v := by rw [State.sensed_eq, hsetup]
  have hwritten : stored.setInput i { s.input i with
      level := s.levelAfterWrite i x
      timer := if stored.sensed i (s.levelAfterWrite i x) = s.sensed i (s.input i).level then (s.input i).timer
        else stored.stability i (stored.sensed i (s.levelAfterWrite i x)) } = s.writtenInput i x := by
    rw [hsensed, State.sensed_eq, State.stability_eq]
    rfl
  rw [← hwritten]
  refine if_congr ?_ rfl rfl
  rw [Bool.and_eq_true, decide_eq_true_iff, Option.isSome_iff_ne_none]

/-- Settles O55: the write is clamped and stored, and the blocks that read the record take it. -/
theorem configWrites : Obligations.ConfigWrites := by
  unfold Obligations.ConfigWrites
  refine ⟨fun s l tag table index bs r hadm hstate howner hr => ⟨?_, State.tables_writeRecord,
      Tables.record_store (Record.at_clamp (Record.at_of_ofBytes hr))⟩,
    fun s l tag ps hadm => ⟨fun h => ?_, fun h ho => ?_, fun h ho hps => ?_⟩, recordRanges,
    fun s => ⟨?_, fun r => rfl, fun n r => ⟨State.writeLamp_of_dark, fun hcls => ?_⟩, fun i r => ?_⟩⟩
  · exact exec_answered rfl rfl hadm (.inl (by simp [hstate]))
      (configWriteRule_writes (u := s.withFrame l) (ps := table :: index :: bs) hstate howner hr) rfl
  · exact exec_refusedState rfl rfl hadm rfl (configWriteRule_refusedState (u := s.withFrame l) h) rfl
  · exact exec_answered rfl rfl hadm (.inl (by simp [h])) (configWriteRule_notOwner (u := s.withFrame l) h ho) rfl
  · exact exec_answered rfl rfl hadm (.inl (by simp [h]))
      (configWriteRule_badParam (u := s.withFrame l) h ho (writtenRecord_eq_none hps)) rfl
  · rintro r (⟨i, f, rfl⟩ | ⟨i, p, rfl⟩ | ⟨p, rfl⟩ | ⟨i, p, rfl⟩ | ⟨i, p, rfl⟩ | ⟨p, rfl⟩) <;> rfl
  · obtain ⟨hbegins, hrest, hprove⟩ := LampRec.restart_begins (cfg := r) (on := true) hcls
    refine ⟨(s.lamp n).restart r true, rfl, fun h => ?_, fun h => ?_, fun m h hm => ?_, hrest, hprove⟩
    · rw [h] at hbegins; exact hbegins
    · rw [h] at hbegins; exact hbegins
    · have hpattern : (s.lamp n).patternOf r .manual = m.pattern := by simp only [LampRec.patternOf, hm]
      rw [h, hpattern] at hbegins; exact hbegins
  · intro was level sensed now timer u
    have hlevel : s.levelAfterWrite i r = level := State.levelAfterWrite_eq
    show s.writeInput (Input.ofIx i.ix) r = _
    have hwritten : s.writtenInput i r = u := by
      unfold State.writtenInput
      rw [hlevel]
      rfl
    rw [inputOfIx, State.writeInput_eq, hwritten]

end Sys2Proof.Machine
